-- ==== Sys2Proof/Word.lean ====
section
/-! DEFINITION. The words of the part: bytes of both serial lines, and the index ranges of its tables
(00_scope.md, Index names). An index is a `Fin`, so a table is never read outside its range. -/

namespace Sys2Proof

/-- One byte of a frame on either serial line. -/
abbrev Byte := BitVec 8

/-- A measurement point P0 to P31. -/
abbrev PointIx := Fin 32
/-- A probe curve C0 to C7. -/
abbrev CurveIx := Fin 8
/-- A stream S0 to S15. -/
abbrev StreamIx := Fin 16
/-- An actuator A0 to A15. -/
abbrev ActIx := Fin 16
/-- An electrolytic cell E0 to E3. -/
abbrev CellIx := Fin 4
/-- A cartridge chain K0 to K3. -/
abbrev ChainIx := Fin 4
/-- A holding tank T0 to T3. -/
abbrev TankIx := Fin 4
/-- A local pin L0 to L11. -/
abbrev PinIx := Fin 12
/-- A pulse counter Q0 to Q5. -/
abbrev CounterIx := Fin 6
/-- A scan list entry 0 to 47. -/
abbrev ScanIx := Fin 48
/-- An interlock entry 0 to 23. -/
abbrev InterlockIx := Fin 24
/-- A field node: the value `n` stands for node number `n + 1`, so the range is the nodes 1 to 62. -/
abbrev NodeIx := Fin 62
/-- A channel 0 to 3 of a field node. -/
abbrev Channel := Fin 4
/-- A report class 0 to 3. -/
abbrev Class := Fin 4
/-- An index 0 to 20 of the class map. -/
abbrev KindIx := Fin 21

end Sys2Proof
end

