-- ==== Sys2Proof/Syntax.lean ====
section
/-! DEFINITION. The commands of the LT-244: one constructor per row of spec/opcode_table.json, in the table's order.
A row that executes a request has no operand of its own: tag, table, index, record and arguments are those of the request at
the head of the request queue (R193, R194). A row that is an event of the outside carries what the outside brings. -/

namespace Sys2Proof

/-- R102: what a conversion on an analog pin compares: the input and the converter's reference, both in one unit of voltage (log 27). -/
structure Conversion where
  input : Nat
  reference : Nat
  deriving DecidableEq, Repr

/-- One step of the part. -/
inductive Instr where
  /-- PLANT_FRAME_RECEIVED (R192): A complete plant frame is taken whole; a valid frame restarts the silence timer and joins the request queue, and a frame that fails a check is discarded. -/
  | plantFrameReceived (heard : List Byte)
  /-- PLANT_FRAME_GAP_TIMEOUT (R192): More than 20 character times pass between two bytes of an incomplete plant frame, so the frame is discarded and the receive path waits for a start byte. -/
  | plantFrameGapTimeout
  /-- OTHER_KIND_REQUEST (R192): A queued valid frame whose kind is not LOAD, READ or COMMAND is executed and answered BAD_VALUE. -/
  | otherKindRequest
  /-- LOAD_POINT (R32): LOAD of the POINT table is checked, then loads or unloads a point record and resets its runtime fields. -/
  | loadPoint
  /-- LOAD_CURVE (R45): LOAD of the CURVE table is checked, then replaces a probe curve's breakpoints, or unloads the curve when the count is 0. -/
  | loadCurve
  /-- LOAD_SCAN (R62): LOAD of the SCAN table is checked, then writes or empties one scan list entry and resets its runtime fields. -/
  | loadScan
  /-- LOAD_STREAM (R1): LOAD of the STREAM table is checked, then replaces or unloads a stream record and takes or gives up its claims. -/
  | loadStream
  /-- LOAD_ACTUATOR (R76): LOAD of the ACTUATOR table is checked, clears the record, takes the load values and sends out the safe value. -/
  | loadActuator
  /-- LOAD_CELL (R108): LOAD of the CELL table is checked, then replaces or unloads a cell record and restarts or stops its PWM generator. -/
  | loadCell
  /-- LOAD_CHAIN (R131): LOAD of the CHAIN table is checked, then replaces or unloads a chain record, claims its order actuator and starts or stops its metering timer. -/
  | loadChain
  /-- LOAD_TANK (R146): LOAD of the TANK table is checked, then replaces or unloads a tank record with its claims and starts or stops its metering timer. -/
  | loadTank
  /-- LOAD_PERMIT (R166): LOAD of the PERMIT table is checked, then loads or unloads the permit and sets its runtime fields. -/
  | loadPermit
  /-- LOAD_PINMAP (R97): LOAD of the PINMAP table is checked, releases the pin's old function and takes its new one. -/
  | loadPinmap
  /-- LOAD_INTERLOCK (R88): LOAD of the INTERLOCK table writes or empties one interlock entry. -/
  | loadInterlock
  /-- LOAD_CLASSMAP (R184): LOAD of the CLASSMAP table sets the class of a report kind, or restores its default class. -/
  | loadClassmap
  /-- LOAD_LINE (R57): LOAD of the LINE table replaces the field line parameters and acts on the silence timer. -/
  | loadLine
  /-- READ_POINT (R49): READ of the POINT table returns a point's loaded and runtime fields. -/
  | readPoint
  /-- READ_CURVE (R49): READ of the CURVE table returns a curve's breakpoint count and breakpoints. -/
  | readCurve
  /-- READ_SCAN (R62): READ of the SCAN table returns a scan entry's point, period and runtime fields. -/
  | readScan
  /-- READ_STREAM (R30): READ of the STREAM table returns a stream record with the two plant-wide accounts. -/
  | readStream
  /-- READ_ACTUATOR (R93): READ of the ACTUATOR table returns an actuator's loaded fields, runtime fields and owner. -/
  | readActuator
  /-- READ_INTERLOCK (R93): READ of the INTERLOCK table returns an interlock entry and whether its condition holds now. -/
  | readInterlock
  /-- READ_CELL (R129): READ of the CELL table returns a cell record. -/
  | readCell
  /-- READ_CHAIN (R144): READ of the CHAIN table returns a chain record with its positions and whether it accepts. -/
  | readChain
  /-- READ_TANK (R165): READ of the TANK table returns a tank record, its batch record and whether it accepts. -/
  | readTank
  /-- READ_PERMIT (R181): READ of the PERMIT table returns the permit, the clock, the drain condition and the release queue. -/
  | readPermit
  /-- READ_PINMAP (R107): READ of the PINMAP table returns a pin map entry, the live state of its function and all six counters. -/
  | readPinmap
  /-- READ_CLASSMAP (R184): READ of the CLASSMAP table returns the class of a kind, the masks, the per-class queue counts and the gap flag. -/
  | readClassmap
  /-- READ_LINE (R57): READ of the LINE table returns the line parameters, node health, the set queues, the ALL-SAFE status and the set-run count. -/
  | readLine
  /-- START_STREAM (R7): START_STREAM moves an OFFLINE stream to ACTIVE after its checks. -/
  | startStream
  /-- STOP_STREAM (R8): STOP_STREAM moves a stream to OFFLINE and keeps its totals. -/
  | stopStream
  /-- START_CELL (R114): START_CELL moves an IDLE cell to RUN, forms its first duty and plated charge, and starts its regulation timer. -/
  | startCell
  /-- HARVEST_CELL (R115): HARVEST_CELL moves a RUN cell to HARVEST and forces its drive to zero. -/
  | harvestCell
  /-- END_HARVEST (R116): END_HARVEST moves a HARVEST cell to IDLE and zeroes its plated estimate. -/
  | endHarvest
  /-- CLEAR_CELL (R117): CLEAR_CELL moves a FAULT cell to IDLE. -/
  | clearCell
  /-- INSTALL_CARTRIDGE (R135): INSTALL_CARTRIDGE records a fresh cartridge as LEAD or LAG in a chain position and requests the order actuator when the position becomes LEAD. -/
  | installCartridge
  /-- REMOVE_CARTRIDGE (R136): REMOVE_CARTRIDGE empties a LAG or SPENT position of a chain. -/
  | removeCartridge
  /-- START_TANK (R151): START_TANK moves an IDLE tank to FILLING and requests the FILLING values. -/
  | startTank
  /-- STOP_TANK (R152): STOP_TANK moves a tank to IDLE from FILLING, MIXING, TESTING or QUEUED and takes it out of the release queue. -/
  | stopTank
  /-- CLOSE_FILL (R155): CLOSE_FILL closes the fill of a FILLING tank by command. -/
  | closeFill
  /-- SET_CLOCK (R168): SET_CLOCK sets the plant clock and recomputes the permit day, with a rollover if the permit day changes. -/
  | setClock
  /-- MASK_CLASS (R185): MASK_CLASS holds a report class from being sent. -/
  | maskClass
  /-- UNMASK_CLASS (R185): UNMASK_CLASS frees a masked report class for sending. -/
  | unmaskClass
  /-- PASS_SET (R90): PASS_SET is checked and interlock-checked, then joins the pass-through queue or is answered at once. -/
  | passSet
  /-- ALL_SAFE (R199): ALL_SAFE enters SAFE-HOLD in one event across all blocks. -/
  | allSafe
  /-- RESUME (R200): RESUME leaves FALLBACK and SAFE-HOLD, and the owners request their actuators again. -/
  | resume
  /-- KEEPALIVE (R197): KEEPALIVE answers OK with the part's status. -/
  | keepalive
  /-- RESET_PART (R201): RESET_PART produces OK and stops request execution until the part resets with cause COMMAND. -/
  | resetPart
  /-- TRANSMIT_NEXT_FRAME (R188): When the transmit path is free, it starts the next pending RESULT or the oldest eligible queued report, copying and clearing the gap flag. -/
  | transmitNextFrame
  /-- PLANT_FRAME_SENT (R201): An outbound plant frame finishes transmission, which frees the transmit path and, for the OK of RESET_PART, begins the COMMAND reset. -/
  | plantFrameSent
  /-- SILENCE_TIMER_EXPIRY (R197): The silence timer expires and the part enters FALLBACK if it is not already in it. -/
  | silenceTimerExpiry
  /-- LINE_FREE (R67): When the field line becomes free, or work appears on a free line, the scheduler starts the next transaction by priority and the fairness count. -/
  | lineFree
  /-- REQUEST_FRAME_SENT (R53): A POLL or SET request frame ends and its reply window opens, or the transaction is abandoned if an ALL-SAFE is pending. -/
  | requestFrameSent
  /-- FIELD_REPLY_RECEIVED (R53): A field frame received within a reply window is validated and ends the attempt as a reply, a HOLDOFF or a silent attempt. -/
  | fieldReplyReceived (frame : List Byte)
  /-- FIELD_FRAME_DISCARDED (R53): A field frame arriving outside any reply window is discarded. -/
  | fieldFrameDiscarded (frame : List Byte)
  /-- REPLY_WINDOW_CLOSED (R55): A reply window closes with no frame begun, so the attempt is silent and the transaction retries or fails SILENT. -/
  | replyWindowClosed
  /-- SILENT_ATTEMPT_RESEND (R55): After a silent first attempt, the request is sent again once the line has been idle for 3.5 character times. -/
  | silentAttemptResend
  /-- HOLDOFF_DELAY_EXPIRY (R54): The holdoff delay ends and the same request frame is sent again. -/
  | holdoffDelayExpiry
  /-- ALL_SAFE_FRAME_SENT (R70): The ALL-SAFE frame ends and its 50 ms settling gap begins. -/
  | allSafeFrameSent
  /-- ALL_SAFE_COMPLETE (R86): The settling gap ends, and every FIELD-bound actuator is confirmed at its safe value and queued again if its desired value differs. -/
  | allSafeComplete
  /-- SCAN_CLOCK_STEP (R63): The 100 ms scan clock raises every scan entry's time since last start, which may make entries due. -/
  | scanClockStep
  /-- RETRY_TIMER_EXPIRY (R83): An actuator's retry timer expires, and the actuator is queued again, re-applied to its pin, or made IDLE. -/
  | retryTimerExpiry (actuator : ActIx)
  /-- ACCOUNT_TIMER_EXPIRY (R10): Once each second, every stream that is not OFFLINE takes its accounting step in index order. -/
  | accountTimerExpiry
  /-- AGE_TIMER_EXPIRY (R38): Once each second, the age of every point rises and over-age GOOD or LIMITED points become STALE. -/
  | ageTimerExpiry
  /-- ANALOG_SAMPLING_ROUND (R102): Every 100 ms the converter samples the ANALOG pins, and the sampling event follows. The operands are the
  conversions on L8 to L11: the voltages as they stand at each (log 27). -/
  | analogSamplingRound (l8 l9 l10 l11 : Conversion)
  /-- PIN_LEVEL_CHANGE (R98): A change of an input pin's level starts or restarts its debounce timer, or sets its debounced state at once when debounce is 0. -/
  | pinLevelChange (pin : PinIx) (level : Bool)
  /-- DEBOUNCE_TIMER_EXPIRY (R98): The debounce timer expires and the debounced state takes the present level. -/
  | debounceTimerExpiry (pin : PinIx)
  /-- COUNTER_EDGE (R99): A qualifying edge raises its counter, with a carry into the high half of a cascaded pair. -/
  | counterEdge (pin : PinIx) (level : Bool)
  /-- PWM_FRAME_START (R125): At each frame start a running generator latches its cell's pending duty and fixes the high counts of its four periods. -/
  | pwmFrameStart (cell : CellIx)
  /-- REGULATION_TIMER_EXPIRY (R118): A RUN cell regulates its inflow rate, target, fold-back, duty and plated estimate. -/
  | regulationTimerExpiry (cell : CellIx)
  /-- CHAIN_METERING (R139): Once each second a chain meters its tail mass and breakthrough run, tests its lead and re-requests its order actuator. -/
  | chainMetering (chain : ChainIx)
  /-- TANK_METERING (R154): Once each second a tank is metered according to its state. -/
  | tankMetering (tank : TankIx)
  /-- DWELL_TIMER_EXPIRY (R156): The mixing dwell expires and the tank goes to TESTING. -/
  | dwellTimerExpiry (tank : TankIx)
  /-- TEST_TIMER_EXPIRY (R159): The test timeout expires and the tank goes to REWORK with cause TIMEOUT. -/
  | testTimerExpiry (tank : TankIx)
  /-- DISCHARGE_TIMER_EXPIRY (R175): Once each second the clock counts, the release is metered and the release queue is evaluated. -/
  | dischargeTimerExpiry
  /-- POWER_RESET (R202): The supply rises and a POWER reset begins, cutting off all activity. -/
  | powerReset
  /-- POWER_RESET_END (R202): The supply has been within range long enough and the POWER reset ends. -/
  | powerResetEnd (rateHi rateLo : Bool)
  /-- RESET_PIN_ASSERTED (R202): The reset pin has been low for 50 µs and a PIN reset begins. -/
  | resetPinAsserted
  /-- RESET_PIN_RELEASED (R202): The reset pin returns high and the PIN reset ends. -/
  | resetPinReleased (rateHi rateLo : Bool)
  /-- BAD_TABLE_REQUEST (R195): A queued LOAD or READ whose table code is none of the thirteen tables is executed and answered BAD_TABLE. -/
  | badTableRequest
  /-- UNKNOWN_COMMAND_CODE (R196): A queued COMMAND whose command code is unknown, or whose arguments are of the wrong number or length, is executed and answered BAD_VALUE. -/
  | unknownCommandCode
deriving DecidableEq, Repr

end Sys2Proof
end

