-- ==== Sys2Proof/Decode.lean ====
section
/-! DEFINITION. No row of the table gives bits: the commands are events and executions of requests, so no word spells one.
The bytes of the two serial lines are decoded in Machine/Operands.lean and Machine/PlantPort.lean. -/

namespace Sys2Proof

/-- The command that a word spells by the table's bits: none, for every word. -/
def decodeTableWord (_nbits _w : Nat) : Option Instr := none

end Sys2Proof
end

