-- ==== Sys2Proof/Config.lean ====
section
/-! DEFINITION. The constants the spec fixes: capacities, ranges and intervals. The spec leaves no result of a
command undefined, so there is no free value here. -/

namespace Sys2Proof.Config

/-- The greatest 48-bit mass or volume (00_scope.md, Units). -/
abbrev max48 : Nat := 281474976710655
/-- The greatest 32-bit count. -/
abbrev max32 : Nat := 4294967295
/-- The greatest 24-bit concentration, flow or rate. -/
abbrev max24 : Nat := 16777215
/-- The greatest 16-bit figure. -/
abbrev max16 : Nat := 65535

/-- R183: entries of the report queue. -/
abbrev reportCapacity : Nat := 32
/-- R193: entries of the request queue. -/
abbrev requestCapacity : Nat := 4
/-- R193: QUEUE_FULL answers kept waiting. -/
abbrev queueFullCapacity : Nat := 4
/-- R66: entries of the pass-through queue. -/
abbrev passCapacity : Nat := 4
/-- R68: the set-run count at which a due poll goes ahead of the sets. -/
abbrev fairRun : Nat := 4
/-- R63: the LOST scan rate in units of 0.1 s. -/
abbrev lostScanPeriod : Nat := 100
/-- R194, R204: content bytes of one RESULT part. -/
abbrev resultPart : Nat := 237

/-- The one-second timers, in milliseconds. -/
abbrev secondMs : Nat := 1000
/-- R41, R63: the sampling timer and the scan clock, in milliseconds. -/
abbrev tenthMs : Nat := 100
/-- R80, R82: the retry interval, in milliseconds. -/
abbrev retryMs : Nat := 5000

end Sys2Proof.Config
end

