-- ==== Sys2Proof/Machine/State.lean ====
section
/-! DEFINITION. The state of the LT-244 as plain data: every record, queue, counter, timer, mode and pin the spec gives
its eleven blocks, and the queue of waiting commands. Timers hold the milliseconds that remain; `none` is "stopped". -/

namespace Sys2Proof.Machine

/-! ## Measurement Unit (chapter 2) -/

/-- R32: the kind of a point. -/
inductive PointKind where
  | silver | flow | ph | level | volt
deriving DecidableEq, Repr

/-- R32: the source of a point, with the fields that belong to it. `k` is the K-factor in 0.01 mL per pulse. -/
inductive PointSource where
  | field (node : NodeIx) (channel : Channel)
  | counter (q : CounterIx) (k : Nat)
  | switch (pin : PinIx)
  | analog (pin : PinIx)
deriving DecidableEq, Repr

/-- R32: the loaded fields of a point. -/
structure PointCfg where
  kind : PointKind
  source : PointSource
  curve : Option CurveIx
  staleLimit : Nat
  mirror : Bool
deriving DecidableEq, Repr

/-- R34: the quality of a point. -/
inductive Quality where
  | none | good | limited | stale | failed
deriving DecidableEq, Repr

/-- R37: why a point failed. -/
inductive FailCause where
  | nodeFault | nodeLost | unmapped | noCurve
deriving DecidableEq, Repr

/-- R32, R34: a point record; unloaded while `cfg` is `none`. -/
structure Point where
  cfg : Option PointCfg := none
  value : Nat := 0
  quality : Quality := .none
  age : Nat := 0
  lastRaw : Int := 0
deriving DecidableEq, Repr

/-- R45: the breakpoints `(x, y)` of a curve in rising order of `x`; the empty list is an unloaded curve. -/
abbrev Curve := List (Int × Nat)

/-! ## Actuator Table (chapter 4) -/

/-- R75: what an actuator is bound to. -/
inductive Binding where
  | field (node : NodeIx) (channel : Channel)
  | pin (p : PinIx)
deriving DecidableEq, Repr

/-- R75: the loaded fields of an actuator. -/
structure ActuatorCfg where
  binding : Binding
  safe : Nat
deriving DecidableEq, Repr

/-- R78: where an actuator's desired value stands on its way to the plant. -/
inductive ActState where
  | idle | pending | inFlight | refused | failed
deriving DecidableEq, Repr

/-- R76: the last reason of an actuator. -/
inductive ActReason where
  | none | notAllowed | outOfRange | localMode | silent | holdoffLimit | unmapped
deriving DecidableEq, Repr

/-- R75, R76: an actuator record. `retry` is the remaining time of the retry timer. -/
structure Actuator where
  cfg : Option ActuatorCfg := none
  desired : Nat := 0
  confirmed : Option Nat := none
  state : ActState := .idle
  reason : ActReason := .none
  retry : Option Nat := none
deriving DecidableEq, Repr

/-- R88: the condition of an interlock entry. -/
inductive Cond where
  | always
  | tankNotReleasing (t : TankIx)
  | streamActive (i : StreamIx)
  | cellRunning (e : CellIx)
  | budgetAbove (permille : Nat)
deriving DecidableEq, Repr

/-- R88: an interlock entry with content. -/
structure Interlock where
  node : NodeIx
  channel : Channel
  cond : Cond
  max : Nat
deriving DecidableEq, Repr

/-- R77: the record that owns an actuator. -/
inductive Owner where
  | stream (i : StreamIx)
  | tank (t : TankIx)
  | chain (k : ChainIx)
deriving DecidableEq, Repr

/-! ## Local I/O Unit (chapter 5) -/

/-- R94: the edges a COUNTER pin counts. -/
inductive Edge where
  | rising | falling | both
deriving DecidableEq, Repr

/-- R94: the function of a pin, with the fields that belong to it. -/
inductive PinFn where
  | unused
  | input (inverted : Bool) (debounce : Nat)
  | output (inverted : Bool)
  | counter (q : CounterIx) (edge : Edge) (cascade : Bool)
  | cellPwm (e : CellIx) (inverted : Bool)
  | analog
deriving DecidableEq, Repr

/-- A pin: its function, the level present on it from outside, the debounced state and debounce timer of an INPUT
(R98), the drive value of an OUTPUT (R103) and the last sample of an ANALOG pin (R102). -/
structure Pin where
  fn : PinFn := .unused
  level : Bool := false
  debounced : Bool := false
  debounce : Option Nat := none
  drive : Bool := false
  sample : BitVec 12 := 0
deriving DecidableEq, Repr

/-! ## Streams (chapter 1) -/

/-- R1: the kind of a stream. -/
inductive StreamKind where
  | fixer | bleachfix | wash | tail
deriving DecidableEq, Repr

/-- R1: a destination of a stream. -/
inductive Dest where
  | cell (e : CellIx)
  | chain (k : ChainIx)
  | tank (t : TankIx)
  | drain
  | ret
deriving DecidableEq, Repr

/-- R1: the loaded fields of a stream. -/
structure StreamCfg where
  kind : StreamKind
  silverPoint : PointIx
  flowPoint : PointIx
  fallbackConc : Nat
  fallbackFlow : Nat
  route : ActIx
  primary : Dest
  primaryPos : Nat
  divert : Option Dest
  divertPos : Nat
  minDivert : Nat
  shift : Nat
deriving DecidableEq, Repr

/-- R6: the state of a stream. -/
inductive StreamState where
  | offline | active | diverted | fault
deriving DecidableEq, Repr

/-- R2: the credited destination of a stream's last step. -/
inductive Credited where
  | none | primary | divert | unrouted
deriving DecidableEq, Repr

/-- R1, R2: a stream record. -/
structure Stream where
  cfg : Option StreamCfg := none
  state : StreamState := .offline
  mass : Nat := 0
  volume : Nat := 0
  massResidue : Nat := 0
  volResidue : Nat := 0
  snapshot : Nat := 0
  rate : Nat := 0
  credited : Credited := .none
  divertedTime : Nat := 0
  estimated : Nat := 0
  saturated : Bool := false
  lastMass : Nat := 0
  lastVol : Nat := 0
deriving DecidableEq, Repr

/-- R21: a plant-wide account. -/
structure Account where
  mass : Nat := 0
  volume : Nat := 0
deriving DecidableEq, Repr

/-- R21: the unrouted and the return account. -/
structure Accounts where
  unrouted : Account := {}
  ret : Account := {}
deriving DecidableEq, Repr

/-! ## Cells (chapter 6) -/

/-- R108: the loaded fields of a cell. -/
structure CellCfg where
  pwmPin : PinIx
  voltPoint : PointIx
  factor : Nat
  iMin : Nat
  iMax : Nat
  iFs : Nat
  vLimit : Nat
  vHyst : Nat
  interval : Nat
  divider : Nat
  threshold : Nat
deriving DecidableEq, Repr

/-- R111: the state of a cell. -/
inductive CellState where
  | idle | run | harvest | fault
deriving DecidableEq, Repr

/-- R110: the fault reason of a cell. -/
inductive CellFault where
  | none | sulfideRisk | senseLost
deriving DecidableEq, Repr

/-- R108, R110: a cell record. The cell's PWM generator runs exactly while the record is loaded (R104). -/
structure Cell where
  cfg : Option CellCfg := none
  state : CellState := .idle
  fault : CellFault := .none
  fold : Nat := 0
  high : Nat := 0
  miss : Nat := 0
  inflowRate : Nat := 0
  target : Nat := 0
  effective : Nat := 0
  pendingDuty : Nat := 0
  latchedDuty : Nat := 0
  regTimer : Option Nat := none
  plated : Nat := 0
  platedResidue : Nat := 0
  inflow : Nat := 0
deriving DecidableEq, Repr

/-! ## Chains (chapter 7) -/

/-- R131: the loaded fields of a chain. -/
structure ChainCfg where
  order : ActIx
  aFirst : Nat
  bFirst : Nat
  tail : Option PointIx
  limit : Nat
  count : Nat
  swap : Nat
deriving DecidableEq, Repr

/-- R134: the state of a cartridge position. -/
inductive PosState where
  | empty | lead | lag | spent
deriving DecidableEq, Repr

/-- R133: one cartridge position. -/
structure Position where
  state : PosState := .empty
  capacity : Nat := 0
  loading : Nat := 0
  tailResidue : Nat := 0
deriving DecidableEq, Repr

/-- R131, R133: a chain record. -/
structure Chain where
  cfg : Option ChainCfg := none
  posA : Position := {}
  posB : Position := {}
  volume : Nat := 0
  run : Nat := 0
  unplaced : Nat := 0
  passed : Nat := 0
  passedResidue : Nat := 0
  metering : Option Nat := none
deriving DecidableEq, Repr

/-! ## Tanks (chapter 8) -/

/-- R146: an actuator of a tank with its open and closed values. -/
structure Valve where
  act : ActIx
  opened : Nat
  closed : Nat
deriving DecidableEq, Repr

/-- R146: where a tank's rework goes. -/
inductive ReworkDest where
  | chain (k : ChainIx)
  | ret
deriving DecidableEq, Repr

/-- R146: the loaded fields of a tank. -/
structure TankCfg where
  capacity : Nat
  levelPoint : PointIx
  silverPoint : PointIx
  phPoint : PointIx
  outletPoint : PointIx
  high : Nat
  low : Nat
  inlet : Valve
  drain : Valve
  rework : Valve
  reworkDest : ReworkDest
  dwell : Nat
  samples : Nat
  timeout : Nat
deriving DecidableEq, Repr

/-- R150: the state of a tank. -/
inductive TankState where
  | idle | filling | mixing | testing | queued | releasing | rework
deriving DecidableEq, Repr

/-- R149: why a batch was reworked. -/
inductive ReworkCause where
  | none | testFailed | noPermit | timeout | overCap | effluent
deriving DecidableEq, Repr

/-- R149: the outcome of a batch. -/
inductive BatchOutcome where
  | pending | released | reworked
deriving DecidableEq, Repr

/-- R149: a batch record. -/
structure Batch where
  tank : TankIx
  number : Nat
  volume : Nat
  conc : Nat := 0
  phMin : Nat := 1400
  phMax : Nat := 0
  estimate : Nat := 0
  released : Nat := 0
  fillMass : Nat
  cause : ReworkCause := .none
  outcome : BatchOutcome := .pending
deriving DecidableEq, Repr

/-- R146, R148: a tank record. -/
structure Tank where
  cfg : Option TankCfg := none
  state : TankState := .idle
  fillMass : Nat := 0
  fillVol : Nat := 0
  batchNo : Nat := 0
  silverSamples : Nat := 0
  phSamples : Nat := 0
  deferred : Bool := false
  paused : Bool := false
  outSnapshot : Nat := 0
  outVolResidue : Nat := 0
  outMassResidue : Nat := 0
  dwell : Option Nat := none
  test : Option Nat := none
  metering : Option Nat := none
  batch : Option Batch := none
deriving DecidableEq, Repr

/-! ## Discharge Controller (chapter 9) -/

/-- R166: the loaded fields of the permit. -/
structure PermitCfg where
  cap : Nat
  concCap : Nat
  phLow : Nat
  phHigh : Nat
  dayStart : Nat
  silverPoint : PointIx
  phPoint : PointIx
  lowPermille : Nat
  start : Nat
deriving DecidableEq, Repr

/-- R168: a set plant clock. -/
structure ClockTime where
  day : Nat
  sec : Nat
deriving DecidableEq, Repr

/-- R167, R168, R174: the Discharge Controller. The remaining budget is computed (`remainingBudget`), and the RELEASING
tank is the tank in that state. -/
structure Discharge where
  permit : Option PermitCfg := none
  permitDay : Option Nat := none
  consumed : Nat := 0
  released : Nat := 0
  peak : Nat := 0
  lowAlerted : Bool := false
  exhaustedAlerted : Bool := false
  clock : Option ClockTime := none
  queue : List TankIx := []
deriving DecidableEq, Repr

/-- R179: why a release stops. -/
inductive StopCause where
  | budget | meterLost | drainFailed | fallback | safeHold | effluent
deriving DecidableEq, Repr

/-! ## Report Queue (chapter 10) -/

/-- 10.2: the kinds of the class map, in the order of their indices 0 to 20. -/
inductive ReportKind where
  | restarted | streamFault | cellFault | effluentHigh | budgetExhausted | fallbackEntered | nodeLost
  | pointFailed | actuatorFailed | chainExhausted | tankRework | releaseStopped | day | nodeBack
  | streamDiverted | streamRestored | harvestDue | cartridgeSpent | budgetLow | fallbackLeft | batch
deriving DecidableEq, Repr

/-- R183: the object of an alert. -/
inductive AlertObject where
  | part
  | permit
  | stream (i : StreamIx)
  | point (p : PointIx)
  | node (n : NodeIx)
  | actuator (a : ActIx)
  | cell (e : CellIx)
  | chain (k : ChainIx)
  | tank (t : TankIx)
deriving DecidableEq, Repr

/-- R160: the stage of a BATCH report. -/
inductive BatchStage where
  | queued | rework | reworked | released
deriving DecidableEq, Repr

/-- R183: the content of a report. An alert's detail is the list of its figures in the order of 12.3. -/
inductive Report where
  | alert (kind : ReportKind) (object : AlertObject) (detail : List Nat) (time : Option ClockTime)
  | batch (stage : BatchStage) (record : Batch) (time : Option ClockTime)
  | day (permitDay consumed cap released peak : Nat) (time : Option ClockTime)
  | mirror (point : PointIx) (value : Nat) (quality : Quality) (raw : Int) (time : Option ClockTime)
deriving DecidableEq, Repr

/-- R183: an entry of the report queue: a report and the class it was given. -/
structure Entry where
  report : Report
  cls : Class
deriving DecidableEq, Repr

/-- R183 to R187: the Report Queue; the entries stand in age order, oldest first. -/
structure ReportQueue where
  entries : List Entry := []
  classMap : Vector Class 21
  masks : Vector Bool 4 := Vector.replicate 4 false
  gap : Bool := false
deriving DecidableEq, Repr

/-! ## Field Line Controller (chapter 3) -/

/-- R57: the line parameters: bit/s, ms, ms, s. -/
structure LineParams where
  bitRate : Nat
  window : Nat
  holdoff : Nat
  silence : Nat
deriving DecidableEq, Repr

/-- R58: the state of a node. -/
inductive NodeState where
  | unknown | online | suspect | lost
deriving DecidableEq, Repr

/-- R55: why a transaction failed. -/
inductive FailReason where
  | silent | holdoffLimit
deriving DecidableEq, Repr

/-- R58: the health record of a node; `reason` is `none` for NONE. -/
structure NodeHealth where
  state : NodeState := .unknown
  count : Nat := 0
  reason : Option FailReason := none
deriving DecidableEq, Repr

/-- R62: the last outcome of a scan entry. -/
inductive ScanOutcome where
  | none | reading | holdoffLimit | silent | abandoned
deriving DecidableEq, Repr

/-- R62: a scan entry; `slot` holds the point and the period in 0.1 s, `since` is the time since last start or never. -/
structure ScanEntry where
  slot : Option (PointIx × Nat) := none
  since : Option Nat := none
  owed : Bool := false
  last : ScanOutcome := .none
deriving DecidableEq, Repr

/-- R66: a waiting pass-through set. -/
structure PassEntry where
  tag : Byte
  node : NodeIx
  channel : Channel
  value : Nat
  clamped : Bool
deriving DecidableEq, Repr

/-- R52: what a POLL or SET transaction is for. A poll remembers the point named at its start and whether its entry has been
loaded or emptied since (R64); a control set remembers whether R76 has marked it void. -/
inductive Job where
  | poll (entry : ScanIx) (point : PointIx) (rewritten : Bool)
  | control (a : ActIx) (void : Bool)
  | pass (tag : Byte) (clamped : Bool)
deriving DecidableEq, Repr

/-- R53 to R55: where a POLL or SET transaction stands: its request frame is being transmitted, its reply window is open, its
holdoff delay runs, or it waits to re-send after a silent attempt. -/
inductive Phase where
  | sending | window | holdoff | resend
deriving DecidableEq, Repr

/-- R52, R54, R57: a POLL or SET transaction in hand, with the line parameters taken at its start. -/
structure Exchange where
  job : Job
  node : NodeIx
  channel : Channel
  value : Nat
  phase : Phase
  holdoffs : Nat
  silents : Nat
  params : LineParams
deriving DecidableEq, Repr

/-- R52, R203: a reply to a POLL or SET: the signed value and whether the node status is FAULT, the value applied, the reason, or
HOLDOFF. -/
inductive Reply where
  | reading (raw : Int) (fault : Bool)
  | confirm (value : Nat)
  | refuse (reason : ActReason)
  | holdoff
deriving DecidableEq, Repr

/-- R52, R70, R71: what holds the field line. `quiet` is the rest of an abandoned transaction's reply window. -/
inductive Hold where
  | none
  | exchange (x : Exchange)
  | quiet
  | allSafeSending
  | allSafeSettling
deriving DecidableEq, Repr

/-- R57, R58, R62, R65, R66, R68 to R70: the Field Line Controller. -/
structure FieldLine where
  params : LineParams
  nodes : Vector NodeHealth 62
  scan : Vector ScanEntry 48
  controlQ : List ActIx := []
  passQ : List PassEntry := []
  setRun : Nat := 0
  allSafePending : Bool := false
  hold : Hold := .none
deriving DecidableEq, Repr

/-! ## Plant Port (chapter 11) -/

/-- R204: the result codes, in the order of their numbers 0 to 16. -/
inductive Code where
  | ok | clamped | badTable | badIndex | badValue | badBinding | notLoaded | busy | conflict | owned
  | interlocked | fallback | held | queueFull | refused | failed | abandoned
deriving DecidableEq, Repr

/-- R195, R204: the tables of LOAD and READ, in the order of their codes 1 to 13. -/
inductive Table where
  | point | curve | scan | stream | actuator | cell | chain | tank | permit | pinmap | interlock | classmap | line
deriving DecidableEq, Repr

/-- R196: the commands, in the order of its table. -/
inductive Command where
  | startStream | stopStream | startCell | harvestCell | endHarvest | clearCell | installCartridge
  | removeCartridge | startTank | stopTank | closeFill | setClock | maskClass | unmaskClass | passSet | allSafe
  | resume | keepalive | resetPart
deriving DecidableEq, Repr

/-- R195, R205: what a LOAD record spells: a LOAD of kind NONE, a record with a field out of its range, or content. -/
inductive Body (α : Type) where
  | unload
  | bad
  | content (a : α)
deriving DecidableEq, Repr

/-- R193: a waiting request: the kind byte, the tag and the body of a valid frame. -/
structure Request where
  kind : Byte
  tag : Byte
  body : List Byte
deriving DecidableEq, Repr

/-- R194: where a RESULT comes from: an executed request (the port holds until its last part begins), RESET_PART's OK, a full
request queue, or the end of a pass-through. -/
inductive Origin where
  | executed | resetOk | queueFull | passThrough
deriving DecidableEq, Repr

/-- R194, R204: one RESULT, or one part of it, waiting to be sent. -/
structure ResultItem where
  tag : Byte
  code : Code
  part : Nat
  last : Bool
  content : List Byte
  origin : Origin
deriving DecidableEq, Repr

/-- R188, R204: the plant frame being transmitted. -/
structure TxFrame where
  bytes : List Byte
  resetOk : Bool
deriving DecidableEq, Repr

/-- R202: the cause of a reset. -/
inductive ResetCause where
  | power | pin | command
deriving DecidableEq, Repr

/-- R191: the bit rates of the plant line. -/
inductive PlantRate where
  | r19200 | r38400 | r115200 | r230400
deriving DecidableEq, Repr

/-- R191 to R202: the Plant Port. `rx` holds the bytes after the start byte of the frame being received, or `none` while the
receive path waits for a start byte. -/
structure PlantPort where
  strapHi : Bool := false
  strapLo : Bool := false
  rate : PlantRate := .r19200
  rx : Option (List Byte) := none
  requests : List Request := []
  results : List ResultItem := []
  tx : Option TxFrame := none
  holding : Bool := false
  ended : Bool := false
  silence : Option Nat := none
  fallback : Bool := false
  safeHold : Bool := false
  cause : ResetCause := .power
  powerReset : Bool := false
  pinReset : Bool := false
  powerSeen : Bool := false
deriving DecidableEq, Repr

/-- The timers that run from the end of every reset (R10, R38, R41, R63, R168), as the milliseconds that remain. -/
structure Timers where
  account : Nat := 1000
  age : Nat := 1000
  sampling : Nat := 100
  scan : Nat := 100
  discharge : Nat := 1000
deriving DecidableEq, Repr

/-- The whole part, and the commands that wait to act on it. -/
structure State where
  pending : List Instr
  port : PlantPort
  reports : ReportQueue
  line : FieldLine
  points : Vector Point 32
  curves : Vector Curve 8
  actuators : Vector Actuator 16
  interlocks : Vector (Option Interlock) 24
  pins : Vector Pin 12
  counters : Vector (BitVec 16) 6
  streams : Vector Stream 16
  accounts : Accounts
  cells : Vector Cell 4
  chains : Vector Chain 4
  tanks : Vector Tank 4
  disch : Discharge
  timers : Timers
deriving DecidableEq, Repr

/-- No meaning of this model faults: the spec answers every misuse with a result code, an alert or a discarded frame. -/
inductive Fault where
  /-- Raised by nothing. It stands so that the type is not empty; a machine that never raises it is safe. -/
  | unreachable
deriving DecidableEq, Repr

/-- Why a command was refused. -/
inductive Refusal where
  /-- The command has no meaning yet; raised only by an arm of `exec`. Safe: the model stops where the part goes on. -/
  | notModelled (mnemonic : String)
deriving DecidableEq, Repr

/-- What one command answers. -/
abbrev Answer := Host.Outcome State Fault Refusal

/-- 10.2: the default class of each kind of the class map. -/
def defaultClasses : Vector Class 21 :=
  #v[0, 0, 0, 0, 0, 0, 1, 1, 1, 1, 1, 1, 1, 2, 2, 2, 2, 2, 2, 2, 2]

/-- R57: the line parameters after every reset. -/
def defaultLine : LineParams := { bitRate := 57600, window := 20, holdoff := 20, silence := 60 }

/-- The part at the end of a POWER reset (R31, R50, R74, R93, R107, R130, R145, R165, R182, R190, R202): every table unloaded,
an ALL-SAFE pending, RESTARTED with cause POWER the only report. The straps and the pin levels are low (logs 6 and 7). -/
def State.reset : State where
  pending := []
  port := {}
  reports :=
    { entries := [{ report := .alert .restarted .part [1] none, cls := 0 }], classMap := defaultClasses }
  line :=
    { params := defaultLine, nodes := Vector.replicate 62 {}, scan := Vector.replicate 48 {}, allSafePending := true }
  points := Vector.replicate 32 {}
  curves := Vector.replicate 8 []
  actuators := Vector.replicate 16 {}
  interlocks := Vector.replicate 24 none
  pins := Vector.replicate 12 {}
  counters := Vector.replicate 6 0
  streams := Vector.replicate 16 {}
  accounts := {}
  cells := Vector.replicate 4 {}
  chains := Vector.replicate 4 {}
  tanks := Vector.replicate 4 {}
  disch := {}
  timers := {}

end Sys2Proof.Machine
end

