-- ==== Sys2Proof/Machine/Ops.lean ====
section
/-! DEFINITION. The named operations every block is written over: reading and writing one record of a table, the manual's
roundings and saturating sums (00_scope.md, Rounding), byte coding (R205) and the two CRCs (R203, R204). -/

namespace Sys2Proof.Machine

/-! ## Records of the tables -/

def State.point (s : State) (p : PointIx) : Point := s.points[p]
def State.setPoint (s : State) (p : PointIx) (x : Point) : State := { s with points := s.points.set p x }
def State.curve (s : State) (c : CurveIx) : Curve := s.curves[c]
def State.setCurve (s : State) (c : CurveIx) (x : Curve) : State := { s with curves := s.curves.set c x }
def State.actuator (s : State) (a : ActIx) : Actuator := s.actuators[a]
def State.setActuator (s : State) (a : ActIx) (x : Actuator) : State := { s with actuators := s.actuators.set a x }
def State.interlock (s : State) (i : InterlockIx) : Option Interlock := s.interlocks[i]
def State.setInterlock (s : State) (i : InterlockIx) (x : Option Interlock) : State :=
  { s with interlocks := s.interlocks.set i x }
def State.pin (s : State) (p : PinIx) : Pin := s.pins[p]
def State.setPin (s : State) (p : PinIx) (x : Pin) : State := { s with pins := s.pins.set p x }
def State.counter (s : State) (q : CounterIx) : BitVec 16 := s.counters[q]
def State.setCounter (s : State) (q : CounterIx) (x : BitVec 16) : State := { s with counters := s.counters.set q x }
def State.stream (s : State) (i : StreamIx) : Stream := s.streams[i]
def State.setStream (s : State) (i : StreamIx) (x : Stream) : State := { s with streams := s.streams.set i x }
def State.cell (s : State) (e : CellIx) : Cell := s.cells[e]
def State.setCell (s : State) (e : CellIx) (x : Cell) : State := { s with cells := s.cells.set e x }
def State.chain (s : State) (k : ChainIx) : Chain := s.chains[k]
def State.setChain (s : State) (k : ChainIx) (x : Chain) : State := { s with chains := s.chains.set k x }
def State.tank (s : State) (t : TankIx) : Tank := s.tanks[t]
def State.setTank (s : State) (t : TankIx) (x : Tank) : State := { s with tanks := s.tanks.set t x }
def State.node (s : State) (n : NodeIx) : NodeHealth := s.line.nodes[n]
def State.setNode (s : State) (n : NodeIx) (x : NodeHealth) : State :=
  { s with line := { s.line with nodes := s.line.nodes.set n x } }
def State.scanEntry (s : State) (i : ScanIx) : ScanEntry := s.line.scan[i]
def State.setScanEntry (s : State) (i : ScanIx) (x : ScanEntry) : State :=
  { s with line := { s.line with scan := s.line.scan.set i x } }

/-- Apply `f` to every record of a table. Written over lists, so that it evaluates by structural recursion. -/
def eachOf {α β : Type} {n : Nat} (f : α → β) (v : Vector α n) : Vector β n := ⟨(v.toList.map f).toArray, by simp⟩

/-! ## Whole blocks -/

def State.setPort (s : State) (x : PlantPort) : State := { s with port := x }
def State.setReports (s : State) (x : ReportQueue) : State := { s with reports := x }
def State.setLine (s : State) (x : FieldLine) : State := { s with line := x }
def State.setAccounts (s : State) (x : Accounts) : State := { s with accounts := x }
def State.setDisch (s : State) (x : Discharge) : State := { s with disch := x }
def State.setTimers (s : State) (x : Timers) : State := { s with timers := x }
def State.setPending (s : State) (x : List Instr) : State := { s with pending := x }

/-- R168: the plant clock time that a report raised now carries, or unset. -/
def State.clock (s : State) : Option ClockTime := s.disch.clock

/-- The part is in a POWER or a PIN reset that has not ended (R202). -/
def State.inReset (s : State) : Bool := s.port.powerReset || s.port.pinReset

/-- Run an event that only a part out of reset takes: during a reset everything is cut off (R202, log 10). -/
def State.live (s : State) (f : State → State) : Answer := .next (if s.inReset then s else f s)

/-! ## Arithmetic of the manual -/

/-- A sum that stays at its bound (R16, R21, R126, R133, R148, R170). -/
def satAdd (bound a b : Nat) : Nat := min (a + b) bound

/-- Add into a 48-bit sum. -/
def add48 (a b : Nat) : Nat := satAdd Config.max48 a b

/-- Round half up: add half the divisor, then truncate. Exact for odd divisors too. -/
def roundHalfUp (n d : Nat) : Nat := (2 * n + d) / (2 * d)

/-- Round up: any remainder raises the quotient. -/
def roundUp (n d : Nat) : Nat := (n + d - 1) / d

/-- Round half away from zero, for a signed dividend. -/
def roundHalfAway (n : Int) (d : Nat) : Int := n.sign * (roundHalfUp n.natAbs d : Nat)

/-- Milliseconds as whole seconds, rounded up. -/
def secondsUp (ms : Nat) : Nat := roundUp ms Config.secondMs

/-! ## Bytes -/

/-- R205: a number in `n` bytes, most significant first. -/
def be : Nat → Nat → List Byte
  | 0, _ => []
  | n + 1, x => BitVec.ofNat 8 (x / 256 ^ n) :: be n x

/-- R205: the number that bytes spell, most significant first. -/
def beVal (bs : List Byte) : Nat := bs.foldl (fun acc b => 256 * acc + b.toNat) 0

/-- The number in the `n` bytes from offset `off`. -/
def fieldAt (bs : List Byte) (off n : Nat) : Nat := beVal ((bs.drop off).take n)

/-- R205: a flag, 0 clear and 1 set. -/
def flagByte (b : Bool) : List Byte := be 1 b.toNat

/-- R205: an item that may be absent, coded all ones at its size. -/
def optBytes (n : Nat) : Option Nat → List Byte
  | some x => be n x
  | none => List.replicate n 255

/-- R205: a clock time; unset is day 0 with seconds 16,777,215. -/
def clockBytes : Option ClockTime → List Byte
  | some c => be 2 c.day ++ be 3 c.sec
  | none => be 2 0 ++ be 3 16777215

/-- R205: a signed raw figure in two bytes, two's complement. -/
def rawBytes (x : Int) : List Byte := be 2 (x.emod 65536).toNat

/-- The signed figure that a 16-bit number spells in two's complement. -/
def signed16 (x : Nat) : Int := if x < 32768 then x else (x : Int) - 65536

/-- One bit of a CRC division, most significant bit first. -/
def crcBit {w : Nat} (poly : BitVec w) (r : BitVec w) : BitVec w :=
  if r.msb then (r <<< 1) ^^^ poly else r <<< 1

/-- R203: the CRC-8 with polynomial x⁸ + x² + x + 1 and initial value 0. -/
def crc8 (bs : List Byte) : Byte :=
  bs.foldl (fun (r b : Byte) => Nat.repeat (crcBit 7) 8 (r ^^^ b)) 0

/-- R204: the CRC-16 with polynomial x¹⁶ + x¹² + x⁵ + 1 and initial value 65,535. -/
def crc16 (bs : List Byte) : BitVec 16 :=
  bs.foldl (fun (r : BitVec 16) (b : Byte) => Nat.repeat (crcBit 4129) 8 (r ^^^ (b.setWidth 16) <<< 8)) 65535

/-- The index that a number names in a table of `n` records, if it is in range. -/
def index? (n x : Nat) : Option (Fin n) := if h : x < n then some ⟨x, h⟩ else none

/-- The field node with that number, 1 to 62. -/
def node? (x : Nat) : Option NodeIx := if x = 0 then none else index? 62 (x - 1)

/-- The number of a field node. -/
def nodeNumber (n : NodeIx) : Nat := n.val + 1

end Sys2Proof.Machine
end

