-- ==== Sys2Proof/Machine/Flags.lean ====
section
/-! DEFINITION. The conditions the blocks read of one another, each evaluated from the state that stands: usable points,
acceptance, the drain condition, interlock conditions, due entries, ownership, objects in service, counter mapping. -/

namespace Sys2Proof.Machine

/-! ## Points (R32, R34, R36) -/

/-- R32: the greatest value a point of that kind can hold. -/
def kindMax : PointKind → Nat
  | .silver => 16777215 | .flow => 16777215 | .ph => 1400 | .level => 1000 | .volt => 65535

/-- R34, R36: a point is usable when it is loaded and its quality is GOOD, LIMITED or STALE. -/
def usable (p : Point) : Bool :=
  p.cfg.isSome && (p.quality = .good || p.quality = .limited || p.quality = .stale)

/-- R36: the quality every reader sees: an unloaded point is of quality NONE. -/
def qualityOf (p : Point) : Quality := if p.cfg.isSome then p.quality else .none

/-- The point is loaded and of that kind. -/
def isKind (k : PointKind) (p : Point) : Bool := p.cfg.any (·.kind = k)

/-- The point is loaded and not of that kind (R3, R109, R132, R147, R166). -/
def wrongKind (k : PointKind) (p : Point) : Bool := p.cfg.any (·.kind ≠ k)

/-- The counter and K-factor of a loaded point with source COUNTER. -/
def counterSource (p : Point) : Option (CounterIx × Nat) :=
  match p.cfg with
  | some { source := .counter q k, .. } => some (q, k)
  | _ => none

/-- The point is a loaded FIELD point on that node. -/
def onNode (n : NodeIx) (p : Point) : Bool :=
  match p.cfg with
  | some { source := .field m _, .. } => m = n
  | _ => false

/-- The node and channel of a loaded FIELD point. -/
def fieldSource (p : Point) : Option (NodeIx × Channel) :=
  match p.cfg with
  | some { source := .field n c, .. } => some (n, c)
  | _ => none

/-! ## Counters and pins (R42, R99 to R101) -/

/-- R100: the odd partner of Q0, Q2 or Q4. -/
def oddPartner : CounterIx → CounterIx
  | 0 => 1 | 2 => 3 | 4 => 5 | q => q

/-- R100: the even partner of Q1, Q3 or Q5. -/
def evenPartner : CounterIx → CounterIx
  | 1 => 0 | 3 => 2 | 5 => 4 | q => q

def isOdd (q : CounterIx) : Bool := q.val % 2 = 1

/-- The counter and cascade flag of a pin mapped COUNTER. -/
def counterFn : PinFn → Option (CounterIx × Bool)
  | .counter q _ c => some (q, c)
  | _ => none

/-- The pin mapped COUNTER on `q`, with its cascade flag. -/
def counterPin (s : State) (q : CounterIx) : Option (PinIx × Bool) :=
  (List.finRange 12).findSome? fun p =>
    match counterFn (s.pin p).fn with
    | some (r, c) => if r = q then some (p, c) else none
    | none => none

/-- R100: the counter is the low half of a cascaded pair. -/
def cascaded (s : State) (q : CounterIx) : Bool := (counterPin s q).any (·.2)

/-- R42: a counter is mapped when a pin is assigned to it and it is not the odd partner of a cascaded pair. -/
def counterMapped (s : State) (q : CounterIx) : Bool :=
  (counterPin s q).isSome && !(isOdd q && cascaded s (evenPartner q))

/-- R100, R101: the present value of a counter; for a cascaded even counter, that of the pair. -/
def counterValue (s : State) (q : CounterIx) : Nat :=
  if cascaded s q then (s.counter (oddPartner q)).toNat * 65536 + (s.counter q).toNat else (s.counter q).toNat

/-- R13, R100: the modulus of a consumer's difference. -/
def counterModulus (s : State) (q : CounterIx) : Nat := if cascaded s q then 2 ^ 32 else 2 ^ 16

/-- R13, R161: the pulse difference since a snapshot. -/
def pulsesSince (s : State) (q : CounterIx) (snapshot : Nat) : Nat :=
  let m := counterModulus s q
  (counterValue s q + m - snapshot % m) % m

/-- R94: the pin is mapped OUTPUT. -/
def isOutput : PinFn → Bool
  | .output _ => true
  | _ => false

/-- R94: whether a level is the active one under a polarity. -/
def activeLevel (inverted level : Bool) : Bool := xor level inverted

/-- R103: the level a pin mapped OUTPUT drives: the active level while its drive value is active. -/
def drivenLevel (inverted drive : Bool) : Bool := xor drive inverted

/-! ## Cell drive (R104, R105, R125) -/

/-- R125: the high count of period `n` of a frame with latched duty `d`. -/
def highCount (d n : Nat) : Nat :=
  let b := d / 4
  let e := d - 4 * b
  match n with
  | 0 => if 1 ≤ e then b + 1 else b
  | 1 => if e = 3 then b + 1 else b
  | 2 => if 2 ≤ e then b + 1 else b
  | _ => b

/-- R104, R105: the output of a cell's generator in clock count `c` of period `n` of its frame; low while it is stopped. -/
def generatorOutput (x : Cell) (n c : Nat) : Bool := x.cfg.isSome && decide (c < highCount x.latchedDuty n)

/-! ## The permit (R89, R167, R172) -/

/-- R167: the remaining budget; 0 while the permit is unloaded. -/
def remainingBudget (s : State) : Nat :=
  match s.disch.permit with
  | some p => p.cap - s.disch.consumed
  | none => 0

/-- R172: consumed today is below the cap of a loaded permit. -/
def budgetLeft (s : State) : Bool := s.disch.permit.any fun p => s.disch.consumed < p.cap

/-- R172: the effluent silver point is usable and at or below the concentration cap. -/
def effluentSilverOk (s : State) : Bool :=
  s.disch.permit.any fun p => usable (s.point p.silverPoint) && (s.point p.silverPoint).value ≤ p.concCap

/-- R172: the effluent pH point is usable and within the band. -/
def effluentPhOk (s : State) : Bool :=
  s.disch.permit.any fun p =>
    usable (s.point p.phPoint) && p.phLow ≤ (s.point p.phPoint).value && (s.point p.phPoint).value ≤ p.phHigh

/-- R172: the parts of the DRAIN-accepting condition, in the order of its table. -/
def drainParts (s : State) : List Bool :=
  [s.disch.permit.isSome, s.disch.clock.isSome, !s.port.fallback, !s.port.safeHold, budgetLeft s,
    effluentSilverOk s, effluentPhOk s]

/-- R172: the DRAIN-accepting condition. -/
def drainAccepts (s : State) : Bool := (drainParts s).all id

/-- R181: the number of the first failing part of the condition, counted from 1; 0 when it holds. -/
def drainFailure (s : State) : Nat := if drainAccepts s then 0 else (drainParts s).findIdx (!·) + 1

/-- R174: the tank RELEASING, if there is one. -/
def releasingTank (s : State) : Option TankIx := (List.finRange 4).find? fun t => (s.tank t).state = .releasing

/-- R174: a tank's remaining estimate; 0 without a batch record. -/
def remainingEstimate (x : Tank) : Nat :=
  match x.batch with
  | some b => b.estimate - b.released
  | none => 0

/-! ## Acceptance (R22) -/

/-- R134: the chain has a LEAD position. -/
def hasLead (k : Chain) : Bool := k.posA.state = .lead || k.posB.state = .lead

/-- R22, R134. -/
def chainAccepts (k : Chain) : Bool := k.cfg.isSome && hasLead k

/-- R22, R111. -/
def cellAccepts (e : Cell) : Bool := e.cfg.isSome && e.state = .run

/-- R22, R150: a loaded tank FILLING with a usable level below its high level. -/
def tankAccepts (s : State) (t : TankIx) : Bool :=
  (s.tank t).cfg.any fun c =>
    (s.tank t).state = .filling && usable (s.point c.levelPoint) && (s.point c.levelPoint).value < c.high

/-- R22: whether a destination accepts, from its owner's state. -/
def accepts (s : State) : Dest → Bool
  | .cell e => cellAccepts (s.cell e)
  | .chain k => chainAccepts (s.chain k)
  | .tank t => tankAccepts s t
  | .drain => drainAccepts s
  | .ret => true

/-- R162: whether a rework destination accepts. -/
def reworkAccepts (s : State) : ReworkDest → Bool
  | .chain k => chainAccepts (s.chain k)
  | .ret => true

/-- R161: whether a tank's outlet is available. -/
def outletAvailable (s : State) (c : TankCfg) : Bool :=
  let p := s.point c.outletPoint
  match counterSource p with
  | some (q, _) => counterMapped s q
  | none => usable p

/-! ## Interlocks (R89, R91) -/

/-- R89: whether an interlock condition holds. -/
def condHolds (s : State) : Cond → Bool
  | .always => true
  | .tankNotReleasing t => !((s.tank t).cfg.isSome && (s.tank t).state = .releasing)
  | .streamActive i =>
    (s.stream i).cfg.isSome && ((s.stream i).state = .active || (s.stream i).state = .diverted)
  | .cellRunning e => cellAccepts (s.cell e)
  | .budgetAbove p => s.disch.permit.any fun c => p * c.cap ≤ remainingBudget s * 1000

/-- The interlock entries whose target is that node and channel (R91). -/
def interlocksOn (s : State) (n : NodeIx) (c : Channel) : List Interlock :=
  s.interlocks.toList.filterMap fun e => e.filter fun x => x.node = n && x.channel = c

/-- R91: the interlock check of a pass-through value: the value passed and whether it was clamped, or a failure. -/
def interlockCheck (s : State) (n : NodeIx) (c : Channel) (v : Nat) : Option (Nat × Bool) :=
  let es := interlocksOn s n c
  if es.all fun e => condHolds s e.cond then
    let w := es.foldl (fun m e => min m e.max) v
    some (w, decide (w < v))
  else none

/-! ## The scan list (R63) -/

/-- R63: the effective period of an entry. -/
def effectivePeriod (s : State) (n : NodeIx) (period : Nat) : Nat :=
  if (s.node n).state = .lost then max period Config.lostScanPeriod else period

/-- R63: whether a scan entry is due. -/
def isDue (s : State) (i : ScanIx) : Bool :=
  let e := s.scanEntry i
  match e.slot with
  | none => false
  | some (p, period) =>
    match fieldSource (s.point p) with
    | none => false
    | some (n, _) => e.since.all (fun t => effectivePeriod s n period ≤ t) || e.owed

/-- R67: the due entry with the lowest number. -/
def firstDue (s : State) : Option ScanIx := (List.finRange 48).find? (isDue s)

/-! ## Ownership and claims (R4, R77) -/

def streamOwns (s : State) (a : ActIx) (i : StreamIx) : Bool := (s.stream i).cfg.any (·.route = a)

def tankNames (c : TankCfg) (a : ActIx) : Bool := c.inlet.act = a || c.drain.act = a || c.rework.act = a

def tankOwns (s : State) (a : ActIx) (t : TankIx) : Bool := (s.tank t).cfg.any fun c => tankNames c a

def chainOwns (s : State) (a : ActIx) (k : ChainIx) : Bool := (s.chain k).cfg.any (·.order = a)

/-- R77: the owners that name an actuator. -/
def ownersOf (s : State) (a : ActIx) : List Owner :=
  ((List.finRange 16).filter (streamOwns s a)).map .stream
    ++ ((List.finRange 4).filter (tankOwns s a)).map .tank
    ++ ((List.finRange 4).filter (chainOwns s a)).map .chain

/-- R77: another record than `me` names the actuator. -/
def ownedByOther (s : State) (a : ActIx) (me : Owner) : Bool := (ownersOf s a).any (· ≠ me)

/-- R4, R147: the loaded streams and tanks that name a point as their flow point. -/
def flowConsumers (s : State) (p : PointIx) : List Owner :=
  ((List.finRange 16).filter fun i => (s.stream i).cfg.any (·.flowPoint = p)).map .stream
    ++ ((List.finRange 4).filter fun t => (s.tank t).cfg.any (·.outletPoint = p)).map .tank

/-- R4, R7, R147, R151: the point has source COUNTER and another loaded stream or tank names it as its flow point. -/
def counterTaken (s : State) (p : PointIx) (me : Owner) : Bool :=
  (counterSource (s.point p)).isSome && (flowConsumers s p).any (· ≠ me)

/-! ## Objects in service (R35, R75, R96) -/

def streamInService (x : Stream) : Bool := x.state ≠ .offline
def cellInService (x : Cell) : Bool := x.state ≠ .idle
def tankInService (x : Tank) : Bool := x.state ≠ .idle

/-- R75: the owner of an actuator is in service. -/
def ownerInService (s : State) (a : ActIx) : Bool :=
  (ownersOf s a).any fun
    | .stream i => streamInService (s.stream i)
    | .tank t => tankInService (s.tank t)
    | .chain k => hasLead (s.chain k)

/-- R35: the points that an object in service names. -/
def pointsInService (s : State) : List PointIx :=
  ((List.finRange 16).filter fun i => streamInService (s.stream i)).flatMap
      (fun i => (s.stream i).cfg.toList.flatMap fun c => [c.silverPoint, c.flowPoint])
    ++ ((List.finRange 4).filter fun e => cellInService (s.cell e)).flatMap
      (fun e => (s.cell e).cfg.toList.map fun c => c.voltPoint)
    ++ ((List.finRange 4).filter fun k => hasLead (s.chain k)).flatMap
      (fun k => (s.chain k).cfg.toList.flatMap fun c => c.tail.toList)
    ++ ((List.finRange 4).filter fun t => tankInService (s.tank t)).flatMap
      (fun t => (s.tank t).cfg.toList.flatMap fun c => [c.levelPoint, c.silverPoint, c.phPoint, c.outletPoint])
    ++ (if (releasingTank s).isSome then s.disch.permit.toList.flatMap fun c => [c.silverPoint, c.phPoint] else [])

/-- R35: a point that an object in service names. -/
def pointInService (s : State) (p : PointIx) : Bool := (pointsInService s).contains p

/-- R45: a point in service names the curve. -/
def curveInService (s : State) (c : CurveIx) : Bool :=
  (pointsInService s).any fun p => (s.point p).cfg.any (·.curve = some c)

/-- R96: the pin is that of the point, whose source is ANALOG. -/
def onAnalogPin (p : PinIx) (x : Point) : Bool :=
  match x.cfg with
  | some { source := .analog q, .. } => q = p
  | _ => false

/-- R96: the pin is that of the point, whose source is ANALOG or SWITCH. -/
def onPin (p : PinIx) (x : Point) : Bool :=
  match x.cfg with
  | some { source := .analog q, .. } => q = p
  | some { source := .switch q, .. } => q = p
  | _ => false

/-- R96: the pin is mapped COUNTER on the counter of the point, whose source is COUNTER, or on the even counter of the cascaded pair that
counter belongs to. -/
def countsFor (s : State) (p : PinIx) (x : Point) : Bool :=
  match counterSource x, counterFn (s.pin p).fn with
  | some (q, _), some (r, cascade) => r = q || (cascade && oddPartner r = q)
  | _, _ => false

/-- R96: the actuator is bound to the pin. -/
def boundToPin (p : PinIx) (x : Actuator) : Bool := x.cfg.any (·.binding = .pin p)

/-- R94: the pin is mapped CELL_PWM on that cell. -/
def pwmMapped (f : PinFn) (e : CellIx) : Bool :=
  match f with
  | .cellPwm g _ => g = e
  | _ => false

/-- R96: a stream that is not OFFLINE uses the pin. -/
def streamUsesPin (s : State) (p : PinIx) (i : StreamIx) : Bool :=
  streamInService (s.stream i) && (s.stream i).cfg.any fun c =>
    onPin p (s.point c.silverPoint) || onPin p (s.point c.flowPoint) || countsFor s p (s.point c.flowPoint)

/-- R96: a cell that is not IDLE uses the pin. -/
def cellUsesPin (s : State) (p : PinIx) (e : CellIx) : Bool :=
  cellInService (s.cell e) && (s.cell e).cfg.any fun c =>
    (c.pwmPin = p && pwmMapped (s.pin p).fn e) || onAnalogPin p (s.point c.voltPoint)

/-- R96: a chain with a LEAD position uses the pin. -/
def chainUsesPin (s : State) (p : PinIx) (k : ChainIx) : Bool :=
  hasLead (s.chain k) && (s.chain k).cfg.any fun c => c.tail.any fun t => onAnalogPin p (s.point t)

/-- R96: a tank that is not IDLE uses the pin; of its four points the outlet flow point is the one that a counter can feed (log 23). -/
def tankUsesPin (s : State) (p : PinIx) (t : TankIx) : Bool :=
  tankInService (s.tank t) && (s.tank t).cfg.any fun c =>
    onPin p (s.point c.levelPoint) || onPin p (s.point c.silverPoint) || onPin p (s.point c.phPoint)
      || onPin p (s.point c.outletPoint) || countsFor s p (s.point c.outletPoint)

/-- R96: the permit uses the pin while a batch is RELEASING. -/
def permitUsesPin (s : State) (p : PinIx) : Bool :=
  (releasingTank s).isSome && s.disch.permit.any fun c =>
    onAnalogPin p (s.point c.silverPoint) || onAnalogPin p (s.point c.phPoint)

/-- R96: the pin is bound by an actuator whose owner is in service. -/
def actuatorUsesPin (s : State) (p : PinIx) (a : ActIx) : Bool := boundToPin p (s.actuator a) && ownerInService s a

/-- R96: an object in service uses the pin, row by row of its table. -/
def pinInService (s : State) (p : PinIx) : Bool :=
  (List.finRange 16).any (streamUsesPin s p) || (List.finRange 4).any (cellUsesPin s p)
    || (List.finRange 4).any (chainUsesPin s p) || (List.finRange 4).any (tankUsesPin s p) || permitUsesPin s p
    || (List.finRange 16).any (actuatorUsesPin s p)

end Sys2Proof.Machine
end

