-- ==== Sys2Proof/Machine/Reports.lean ====
section
/-! DEFINITION. Raising a report (R186, R187) and the bytes of a report body (R205, 12.3). -/

namespace Sys2Proof.Machine

/-- 10.2: the index of a kind in the class map, which is also its code in an alert body. -/
def kindIx : ReportKind → KindIx
  | .restarted => 0 | .streamFault => 1 | .cellFault => 2 | .effluentHigh => 3 | .budgetExhausted => 4
  | .fallbackEntered => 5 | .nodeLost => 6 | .pointFailed => 7 | .actuatorFailed => 8 | .chainExhausted => 9
  | .tankRework => 10 | .releaseStopped => 11 | .day => 12 | .nodeBack => 13 | .streamDiverted => 14
  | .streamRestored => 15 | .harvestDue => 16 | .cartridgeSpent => 17 | .budgetLow => 18 | .fallbackLeft => 19
  | .batch => 20

/-- R183: the class of a new entry: MIRROR is of class 3, every other kind takes its class from the class map. -/
def classOf (q : ReportQueue) : Report → Class
  | .alert k .. => q.classMap[kindIx k]
  | .batch .. => q.classMap[kindIx .batch]
  | .day .. => q.classMap[kindIx .day]
  | .mirror .. => 3

/-- R186: the kind and the object of an alert; BATCH, DAY and MIRROR have none and never coalesce. -/
def alertKey : Report → Option (ReportKind × AlertObject)
  | .alert k o .. => some (k, o)
  | _ => none

/-- R187: the highest-numbered class present. -/
def worstClass (es : List Entry) : Nat := es.foldl (fun m e => max m e.cls.val) 0

/-- R187: a new entry joins, or displaces the oldest entry of the highest class numbered above its own, or is
dropped; a loss sets the gap flag. -/
def joinQueue (e : Entry) (q : ReportQueue) : ReportQueue :=
  if q.entries.length < Config.reportCapacity then { q with entries := q.entries ++ [e] }
  else if e.cls.val < worstClass q.entries then
    { q with
      entries := q.entries.eraseP (fun x => x.cls.val == worstClass q.entries) ++ [e]
      gap := true }
  else { q with gap := true }

/-- R186: an alert takes the place of the queued alert of the same kind and object, keeping that entry's class. -/
def coalesce (r : Report) (es : List Entry) : List Entry :=
  es.map fun e => if alertKey e.report = alertKey r then { e with report := r } else e

/-- R186, R187: raise a report into the queue. -/
def ReportQueue.raise (q : ReportQueue) (r : Report) : ReportQueue :=
  if (alertKey r).isSome && q.entries.any (fun e => alertKey e.report = alertKey r) then
    { q with entries := coalesce r q.entries }
  else joinQueue { report := r, cls := classOf q r } q

/-- Raise a report. -/
def raise (r : Report) (s : State) : State := s.setReports (s.reports.raise r)

/-- Raise an alert with the plant clock time as it stands (R168). -/
def raiseAlert (k : ReportKind) (o : AlertObject) (detail : List Nat) (s : State) : State :=
  raise (.alert k o detail s.clock) s

/-! ## Codes of enumerated items (R205): the position in the defining list, counted from 1; NONE is 0 -/

def pointKindCode : PointKind → Nat
  | .silver => 1 | .flow => 2 | .ph => 3 | .level => 4 | .volt => 5
def sourceCode : PointSource → Nat
  | .field .. => 1 | .counter .. => 2 | .switch .. => 3 | .analog .. => 4
def qualityCode : Quality → Nat
  | .none => 0 | .good => 1 | .limited => 2 | .stale => 3 | .failed => 4
def failCauseCode : FailCause → Nat
  | .nodeFault => 1 | .nodeLost => 2 | .unmapped => 3 | .noCurve => 4
def actStateCode : ActState → Nat
  | .idle => 1 | .pending => 2 | .inFlight => 3 | .refused => 4 | .failed => 5
def actReasonCode : ActReason → Nat
  | .none => 0 | .notAllowed => 1 | .outOfRange => 2 | .localMode => 3 | .silent => 4 | .holdoffLimit => 5
  | .unmapped => 6
def edgeCode : Edge → Nat
  | .rising => 1 | .falling => 2 | .both => 3
def streamKindCode : StreamKind → Nat
  | .fixer => 1 | .bleachfix => 2 | .wash => 3 | .tail => 4
def streamStateCode : StreamState → Nat
  | .offline => 1 | .active => 2 | .diverted => 3 | .fault => 4
def creditedCode : Credited → Nat
  | .none => 0 | .primary => 1 | .divert => 2 | .unrouted => 3
def cellStateCode : CellState → Nat
  | .idle => 1 | .run => 2 | .harvest => 3 | .fault => 4
def cellFaultCode : CellFault → Nat
  | .none => 0 | .sulfideRisk => 1 | .senseLost => 2
def posStateCode : PosState → Nat
  | .empty => 1 | .lead => 2 | .lag => 3 | .spent => 4
def tankStateCode : TankState → Nat
  | .idle => 1 | .filling => 2 | .mixing => 3 | .testing => 4 | .queued => 5 | .releasing => 6 | .rework => 7
def reworkCauseCode : ReworkCause → Nat
  | .none => 0 | .testFailed => 1 | .noPermit => 2 | .timeout => 3 | .overCap => 4 | .effluent => 5
def outcomeCode : BatchOutcome → Nat
  | .pending => 1 | .released => 2 | .reworked => 3
def stageCode : BatchStage → Nat
  | .queued => 1 | .rework => 2 | .reworked => 3 | .released => 4
def nodeStateCode : NodeState → Nat
  | .unknown => 1 | .online => 2 | .suspect => 3 | .lost => 4
def failReasonCode : FailReason → Nat
  | .silent => 1 | .holdoffLimit => 2
def scanOutcomeCode : ScanOutcome → Nat
  | .none => 0 | .reading => 1 | .holdoffLimit => 2 | .silent => 3 | .abandoned => 4
def resetCauseCode : ResetCause → Nat
  | .power => 1 | .pin => 2 | .command => 3
/-- R204: the number of a result code. -/
def codeNumber : Code → Nat
  | .ok => 0 | .clamped => 1 | .badTable => 2 | .badIndex => 3 | .badValue => 4 | .badBinding => 5
  | .notLoaded => 6 | .busy => 7 | .conflict => 8 | .owned => 9 | .interlocked => 10 | .fallback => 11
  | .held => 12 | .queueFull => 13 | .refused => 14 | .failed => 15 | .abandoned => 16

/-- R205: a destination as two figures, its kind and its index; the index of DRAIN and RETURN is coded 0 (log 30). -/
def destFigures : Dest → List Nat
  | .cell e => [1, e.val]
  | .chain k => [2, k.val]
  | .tank t => [3, t.val]
  | .drain => [4, 0]
  | .ret => [5, 0]

/-- 12.3: the object table and object index of an alert body. -/
def objectBytes : AlertObject → List Byte
  | .part => be 1 0 ++ be 1 0
  | .permit => be 1 9 ++ be 1 0
  | .stream i => be 1 4 ++ be 1 i.val
  | .point p => be 1 1 ++ be 1 p.val
  | .node n => be 1 14 ++ be 1 (nodeNumber n)
  | .actuator a => be 1 5 ++ be 1 a.val
  | .cell e => be 1 6 ++ be 1 e.val
  | .chain k => be 1 7 ++ be 1 k.val
  | .tank t => be 1 8 ++ be 1 t.val

/-- 12.3: a batch record, from its tank to its outcome. -/
def batchBytes (b : Batch) : List Byte :=
  be 1 b.tank.val ++ be 2 b.number ++ be 4 b.volume ++ be 3 b.conc ++ be 2 b.phMin ++ be 2 b.phMax
    ++ be 6 b.estimate ++ be 6 b.released ++ be 6 b.fillMass ++ be 1 (reworkCauseCode b.cause)
    ++ be 1 (outcomeCode b.outcome)

/-- R204: the frame kind of a report. -/
def reportFrameKind : Report → Nat
  | .alert .. => 66 | .batch .. => 67 | .day .. => 68 | .mirror .. => 69

/-- 12.3: the body of a queued report, with the class held in the queue. -/
def reportBody (e : Entry) : List Byte :=
  match e.report with
  | .alert k o detail time =>
    be 1 (kindIx k).val ++ be 1 e.cls.val ++ objectBytes o ++ clockBytes time
      ++ ((detail ++ List.replicate 4 0).take 4).flatMap (be 6)
  | .batch stage b time => be 1 (stageCode stage) ++ be 1 e.cls.val ++ batchBytes b ++ clockBytes time
  | .day d consumed cap released peak time =>
    be 1 e.cls.val ++ be 2 d ++ be 6 consumed ++ be 6 cap ++ be 2 released ++ be 3 peak ++ clockBytes time
  | .mirror p v q raw time =>
    be 1 e.cls.val ++ be 1 p.val ++ be 3 v ++ be 1 (qualityCode q) ++ rawBytes raw ++ clockBytes time

end Sys2Proof.Machine
end

