-- ==== Sys2Proof/Machine/Actuators.lean ====
section
/-! DEFINITION. The Actuator Table's own operations (chapter 4): applying a pin, owner requests, outcomes of control sets, retries,
SAFE-HOLD entry and ALL-SAFE completion. That a drain actuator's failure stops a release (R179) is said where the Discharge
Controller is (`drainFailed` in Machine/Discharge.lean). -/

namespace Sys2Proof.Machine

/-- R65: the actuator joins the tail of the control set queue and becomes PENDING; its retry timer stops. -/
def enqueue (a : ActIx) (s : State) : State :=
  let s := s.setActuator a { s.actuator a with state := .pending, retry := none }
  s.setLine { s.line with controlQ := s.line.controlQ ++ [a] }

/-- R78: the actuator leaves the control set queue from wherever it stands. -/
def dequeue (a : ActIx) (s : State) : State :=
  s.setLine { s.line with controlQ := s.line.controlQ.filter (· ≠ a) }

/-- R78: withdrawal from the control set queue makes the actuator IDLE. -/
def withdraw (a : ActIx) (s : State) : State :=
  let s := dequeue a s
  s.setActuator a { s.actuator a with state := .idle }

/-- The actuator becomes IDLE with its retry timer stopped. -/
def settleIdle (a : ActIx) (s : State) : State := s.setActuator a { s.actuator a with state := .idle, retry := none }

/-- R80, R84: the pin of a PIN-bound actuator is not mapped OUTPUT: FAILED with reason UNMAPPED, the alert, the retry timer at 5 s. -/
def failUnmapped (a : ActIx) (s : State) : State :=
  let s := s.setActuator a
    { s.actuator a with state := .failed, reason := .unmapped, retry := some Config.retryMs }
  raiseAlert .actuatorFailed (.actuator a) [actReasonCode .unmapped] s

/-- R103: drive the pin active for a value other than 0, inactive for 0. -/
def drivePin (p : PinIx) (v : Nat) (s : State) : State := s.setPin p { s.pin p with drive := decide (v ≠ 0) }

/-- R80: hand a PIN-bound actuator's desired value to its pin. -/
def applyPin (a : ActIx) (p : PinIx) (s : State) : State :=
  if isOutput (s.pin p).fn then
    let s := drivePin p (s.actuator a).desired s
    s.setActuator a { s.actuator a with confirmed := some (s.actuator a).desired, state := .idle, retry := none }
  else failUnmapped a s

/-- R79: an owner request for a FIELD-bound actuator, by its state. -/
def requestField (a : ActIx) (v : Nat) (s : State) : State :=
  let x := s.actuator a
  let s := s.setActuator a { x with desired := v }
  match x.state with
  | .idle => if x.confirmed = some v then s else enqueue a s
  | .pending => if x.confirmed = some v then withdraw a s else s
  | .inFlight => s
  | .refused => if x.confirmed = some v then settleIdle a s else if v = x.desired then s else enqueue a s
  | .failed => if x.confirmed = some v then settleIdle a s else if v = x.desired then s else enqueue a s

/-- R77, R79, R80: an owner asks for a value. In SAFE-HOLD, and on an actuator that is not loaded, nothing changes. -/
def ownerRequest (a : ActIx) (v : Nat) (s : State) : State :=
  if s.port.safeHold then s else
  match (s.actuator a).cfg with
  | none => s
  | some { binding := .field .., .. } => requestField a v s
  | some { binding := .pin p, .. } => applyPin a p (s.setActuator a { s.actuator a with desired := v })

/-- R81: the node confirmed the value the SET carried. -/
def takeConfirm (a : ActIx) (v : Nat) (s : State) : State :=
  let s := s.setActuator a { s.actuator a with confirmed := some v }
  if (s.actuator a).desired = v then settleIdle a s else enqueue a s

/-- R82: the set was refused (`state` REFUSED) or failed (`state` FAILED) for a reason, having carried `v`. -/
def takeRefusal (a : ActIx) (state : ActState) (reason : ActReason) (v : Nat) (s : State) : State :=
  let s := s.setActuator a { s.actuator a with reason := reason }
  let s := raiseAlert .actuatorFailed (.actuator a) [actReasonCode reason, v] s
  if (s.actuator a).desired = v then
    s.setActuator a { s.actuator a with state := state, retry := some Config.retryMs }
  else if (s.actuator a).confirmed = some (s.actuator a).desired then settleIdle a s
  else enqueue a s

/-- R83: the retry timer of a REFUSED or FAILED actuator expires. -/
def retryExpired (a : ActIx) (s : State) : State :=
  let x := s.actuator a
  if x.retry.isSome && (x.state = .refused || x.state = .failed) then
    match x.cfg with
    | none => s
    | some { binding := .pin p, .. } => applyPin a p s
    | some { binding := .field .., .. } => if x.confirmed = some x.desired then settleIdle a s else enqueue a s
  else s

/-- R84: the pin of a PIN-bound actuator ceased to be mapped OUTPUT. -/
def pinLost (a : ActIx) (s : State) : State :=
  failUnmapped a (s.setActuator a { s.actuator a with confirmed := none })

/-- R84: the Local I/O Unit tells that pin `p` ceased to be, or became, mapped OUTPUT. -/
def pinMappingChanged (p : PinIx) (wasOutput nowOutput : Bool) (s : State) : State :=
  match (List.finRange 16).find? fun a => boundToPin p (s.actuator a) with
  | none => s
  | some a =>
    if wasOutput && !nowOutput then pinLost a s
    else if !wasOutput && nowOutput then applyPin a p s
    else s

/-- R85: one actuator at entry into SAFE-HOLD. -/
def safeEntry (a : ActIx) (s : State) : State :=
  let x := s.actuator a
  match x.cfg with
  | none => s
  | some { binding := .pin p, safe } => applyPin a p (s.setActuator a { x with desired := safe })
  | some { binding := .field .., safe } =>
    let s := s.setActuator a { x with desired := safe }
    if x.confirmed = some safe then
      match x.state with
      | .pending => withdraw a s
      | .refused => settleIdle a s
      | .failed => settleIdle a s
      | .idle => s
      | .inFlight => s
    else s

/-- R85: the Actuator Table at entry into SAFE-HOLD. Log 11, the model's choice: the actuators are taken from A0 to A15. -/
def actuatorsSafe (s : State) : State := (List.finRange 16).foldl (fun s a => safeEntry a s) s

/-- R86: one actuator at the completion of an ALL-SAFE. -/
def allSafeConfirm (a : ActIx) (s : State) : State :=
  let x := s.actuator a
  match x.cfg with
  | some { binding := .field .., safe } =>
    let s := s.setActuator a { x with confirmed := some safe }
    if x.desired = safe then
      match x.state with
      | .pending => withdraw a s
      | .refused => settleIdle a s
      | .failed => settleIdle a s
      | .idle => s
      | .inFlight => s
    else
      match x.state with
      | .idle => enqueue a s
      | .refused => enqueue a s
      | .failed => enqueue a s
      | .pending => s
      | .inFlight => s
  | some { binding := .pin _, .. } => s
  | none => s

/-- R86: the Actuator Table at the completion of an ALL-SAFE, in index order. -/
def actuatorsConfirmed (s : State) : State := (List.finRange 16).foldl (fun s a => allSafeConfirm a s) s

/-! ## Loading (R75, R76) -/

/-- R76, stage 1: the record gives up its previous content: it leaves the queue, and a transaction in flight is marked void. -/
def clearActuator (a : ActIx) (s : State) : State :=
  let s := if (s.actuator a).state = .pending then dequeue a s else s
  match s.line.hold with
  | .exchange x =>
    match x.job with
    | .control b _ =>
      if a = b then s.setLine { s.line with hold := .exchange { x with job := .control b true } } else s
    | .poll .. => s
    | .pass .. => s
  | _ => s

/-- R75: another loaded actuator has the same binding. -/
def bindingTaken (s : State) (a : ActIx) (b : Binding) : Bool :=
  (List.finRange 16).any fun c => c ≠ a && (s.actuator c).cfg.any (·.binding = b)

/-- R76, stages 2 and 3: the load values, then the safe value is sent out. -/
def installActuator (a : ActIx) (c : ActuatorCfg) (s : State) : State :=
  let s := (clearActuator a s).setActuator a { cfg := some c, desired := c.safe }
  match c.binding with
  | .field .. => enqueue a s
  | .pin p => applyPin a p s

/-- R76: an unload passes through stage 1, then leaves the reset values. -/
def unloadActuator (a : ActIx) (s : State) : State := (clearActuator a s).setActuator a {}

end Sys2Proof.Machine
end

