-- ==== Sys2Proof/Machine/Cells.lean ====
section
/-! DEFINITION. The Cell Regulator (chapter 6): current, fold-back, duty, plated estimate, leaving RUN, and REGULATION_TIMER_EXPIRY. -/

namespace Sys2Proof.Machine

/-- R119: the stream's credited destination is the cell. -/
def creditsCell (e : CellIx) (x : Stream) : Bool :=
  x.cfg.any fun c =>
    (x.credited = .primary && c.primary = .cell e) || (x.credited = .divert && c.divert = some (.cell e))

/-- R119: the inflow rate of a cell. -/
def inflowRate (s : State) (e : CellIx) : Nat :=
  min (((s.streams.toList.filter (creditsCell e)).map (·.rate)).sum) Config.max24

/-- R120: the target current. -/
def targetCurrent (c : CellCfg) (rate : Nat) : Nat := max c.iMin (min (roundHalfUp (rate * c.factor) 1024) c.iMax)

/-- R124: the effective current at fold-back level `f`. -/
def effectiveCurrent (target f : Nat) : Nat := roundHalfUp (target * (8 - f)) 8

/-- R124: the duty. -/
def dutyOf (c : CellCfg) (eff : Nat) : Nat := min (roundHalfUp (eff * 1024) c.iFs) 1023

/-- R127: the sum whose quotient by 1000 is added to the plated estimate. -/
def plateSum (c : CellCfg) (x : Cell) : Nat := x.effective * c.interval * 1118 + x.platedResidue

/-- R119, R120: parts 1 and 2 of a regulation. -/
def formTarget (c : CellCfg) (rate : Nat) (x : Cell) : Cell :=
  { x with inflowRate := rate, target := targetCurrent c rate }

/-- R124: part 4 of a regulation. -/
def formDuty (c : CellCfg) (x : Cell) : Cell :=
  let eff := effectiveCurrent x.target x.fold
  { x with effective := eff, pendingDuty := dutyOf c eff }

/-- R127: part 5 of a regulation: one interval's charge. -/
def plate (c : CellCfg) (x : Cell) : Cell :=
  { x with plated := add48 x.plated (plateSum c x / 1000), platedResidue := plateSum c x % 1000 }

/-- R127: an addition took the plated estimate from below the threshold to it or above. -/
def crossed (c : CellCfg) (before after : Nat) : Bool :=
  c.threshold ≠ 0 && before < c.threshold && c.threshold ≤ after

/-- R124, R127: parts 4 and 5, with HARVEST_DUE. -/
def driveCell (e : CellIx) (c : CellCfg) (x : Cell) (s : State) : State :=
  let y := plate c (formDuty c x)
  let s := s.setCell e y
  if crossed c x.plated y.plated then raiseAlert .harvestDue (.cell e) [y.plated, c.threshold] s else s

/-- R113: a cell leaves RUN. -/
def leaveRun (st : CellState) (x : Cell) : Cell :=
  { x with state := st, regTimer := none, pendingDuty := 0, latchedDuty := 0, target := 0, effective := 0 }

/-- R122: the fold-back level and the high count after a usable voltage, and whether the high count has reached 10. -/
def judgeVoltage (c : CellCfg) (v : Nat) (x : Cell) : Cell × CellFault :=
  if c.vLimit < v then
    if x.fold < 6 then ({ x with fold := x.fold + 1 }, .none)
    else ({ x with high := x.high + 1 }, if 10 ≤ x.high + 1 then .sulfideRisk else .none)
  else if v < c.vLimit - c.vHyst then ({ x with fold := x.fold - 1, high := 0 }, .none)
  else ({ x with high := 0 }, .none)

/-- R121, R122: part 3 of a regulation, and the fault it has reached, if any. -/
def senseVoltage (c : CellCfg) (p : Point) (x : Cell) : Cell × CellFault :=
  if usable p then judgeVoltage c p.value { x with miss := 0 }
  else ({ x with miss := x.miss + 1 }, if 3 ≤ x.miss + 1 then .senseLost else .none)

/-- R123: the cell faults. -/
def faultCell (e : CellIx) (reason : CellFault) (x : Cell) (s : State) : State :=
  raiseAlert .cellFault (.cell e) [cellFaultCode reason]
    (s.setCell e { leaveRun .fault x with fault := reason })

/-- R118: the regulation of a RUN cell, with the timer restarted. -/
def regulate (e : CellIx) (c : CellCfg) (s : State) : State :=
  let x := formTarget c (inflowRate s e) { s.cell e with regTimer := some (c.interval * Config.secondMs) }
  match senseVoltage c (s.point c.voltPoint) x with
  | (x, .none) => driveCell e c x s
  | (x, reason) => faultCell e reason x s

/-- R118: the regulation timer of a cell expires; the cell regulates while it is loaded and RUN with its timer running. -/
def regulationExpired (e : CellIx) (s : State) : State :=
  match (s.cell e).cfg with
  | none => s
  | some c => if (s.cell e).state = .run && (s.cell e).regTimer.isSome then regulate e c s else s

/-- REGULATION_TIMER_EXPIRY (R118). -/
def execRegulationTimerExpiry (e : CellIx) (s : State) : Answer := s.live (regulationExpired e)

/-- R128: the cells at entry into SAFE-HOLD: every RUN cell goes to IDLE. -/
def cellsSafe (s : State) : State :=
  { s with cells := eachOf (fun x => if x.state = .run then leaveRun .idle x else x) s.cells }

/-- R114: the effects of an accepted START_CELL. -/
def startCell (e : CellIx) (c : CellCfg) (s : State) : State :=
  let x := s.cell e
  let x := { x with
    state := .run, fault := .none, fold := 0, high := 0, miss := 0
    regTimer := some (c.interval * Config.secondMs) }
  driveCell e c (formTarget c (inflowRate s e) x) s

end Sys2Proof.Machine
end

