-- ==== Sys2Proof/Machine/Points.lean ====
section
/-! DEFINITION. Point values (chapter 2): the probe curve, the kind clamp, failing a point, storing a converted reading and a
counter value handed over by its consumer. Handing a reading on (R44) is in Machine/Discharge.lean. -/

namespace Sys2Proof.Machine

/-- R46: the value of a curve's segment at a raw reading, rounding half away from zero. -/
def interpolate (x0 : Int) (y0 : Nat) (x1 : Int) (y1 : Nat) (r : Int) : Nat :=
  (y0 + roundHalfAway (((y1 : Int) - y0) * (r - x0)) (x1 - x0).toNat).toNat

/-- R46: a raw reading at or above the first breakpoint `(x0, y0)`, through the breakpoints that follow it. -/
def curveFrom (x0 : Int) (y0 : Nat) (r : Int) : Curve → Nat × Bool
  | [] => (y0, decide (x0 < r))
  | (x1, y1) :: rest => if r < x1 then (interpolate x0 y0 x1 y1 r, false) else curveFrom x1 y1 r rest

/-- R46: the value of a raw reading on a loaded curve and whether an end of the curve has bound it. -/
def onCurve (r : Int) : Curve → Nat × Bool
  | [] => (0, true)
  | (x0, y0) :: rest => if r < x0 then (y0, true) else curveFrom x0 y0 r rest

/-- R47: the raw reading of a point whose curve is NONE, bound below at 0. -/
def direct (r : Int) : Nat × Bool := (r.toNat, decide (r < 0))

/-- R47: the clamp at the kind maximum, and the quality of the converted reading. -/
def kindClamp (k : PointKind) (v : Nat × Bool) : Nat × Quality :=
  if kindMax k < v.1 then (kindMax k, .limited) else (v.1, if v.2 then .limited else .good)

/-- R46 to R48: the value and quality of a raw reading of a point, or `none` when its curve is not loaded. -/
def convert (s : State) (c : PointCfg) (r : Int) : Option (Nat × Quality) :=
  match c.curve with
  | none => some (kindClamp c.kind (direct r))
  | some i => if (s.curve i).isEmpty then none else some (kindClamp c.kind (onCurve r (s.curve i)))

/-- R37: the point becomes FAILED with a cause, holding its value; the first entry into FAILED raises POINT_FAILED. -/
def failPoint (p : PointIx) (cause : FailCause) (s : State) : State :=
  if (s.point p).quality = .failed then s
  else
    raiseAlert .pointFailed (.point p) [failCauseCode cause]
      (s.setPoint p { s.point p with quality := .failed })

/-- R34: the last raw figure that the source delivered. -/
def setRaw (p : PointIx) (raw : Int) (s : State) : State := s.setPoint p { s.point p with lastRaw := raw }

/-- R37, R38: a converted reading replaces value, quality and age. -/
def storeReading (p : PointIx) (v : Nat) (q : Quality) (s : State) : State :=
  s.setPoint p { s.point p with value := v, quality := q, age := 0 }

/-- R43: a point whose mirror flag is set emits a MIRROR report of the reading it has taken. -/
def mirror (p : PointIx) (s : State) : State :=
  let x := s.point p
  if x.cfg.any (·.mirror) then raise (.mirror p x.value x.quality x.lastRaw s.clock) s else s

/-- R42: the consumer of a COUNTER point hands over the value of `n` pulses at K-factor `k`, which is stored. -/
def handCounter (p : PointIx) (n k : Nat) (s : State) : State :=
  let v := roundHalfUp (n * k) 100
  let s := setRaw p n s
  if v ≤ Config.max24 then storeReading p v .good s else storeReading p Config.max24 .limited s

/-- R40: the FIELD points of a node set LOST become FAILED, in index order. -/
def failNode (n : NodeIx) (s : State) : State :=
  (List.finRange 32).foldl (fun s p => if onNode n (s.point p) then failPoint p .nodeLost s else s) s

/-- R38: one point at the expiry of the age timer. -/
def agePoint (x : Point) : Point :=
  match x.cfg with
  | none => x
  | some c =>
    if x.quality = .none then x
    else
      let age := satAdd Config.max16 x.age 1
      { x with
        age := age
        quality := if c.staleLimit < age && (x.quality = .good || x.quality = .limited) then .stale else x.quality }

end Sys2Proof.Machine
end

