-- ==== Sys2Proof/Machine/Tanks.lean ====
section
/-! DEFINITION. The Tank Controller (chapter 8): valve requests, credits, close of fill, the test, entry into rework. Its metering,
with the outlet readings, is in Machine/Metering.lean. -/

namespace Sys2Proof.Machine

/-! ## Valves (R150) -/

/-- R150: the value a state wants of a valve. -/
def valveValue (v : Valve) (isOpen : Bool) : Nat := if isOpen then v.opened else v.closed

/-- R150: the inlet is open in FILLING. -/
def inletOpen (x : Tank) : Bool := x.state = .filling
/-- R150: the drain is open in RELEASING. -/
def drainOpen (x : Tank) : Bool := x.state = .releasing
/-- R150: the rework valve is open in REWORK unless paused. -/
def reworkOpen (x : Tank) : Bool := x.state = .rework && !x.paused

/-- R150: request the three values of the state the tank is in: inlet, drain, rework. -/
def tankRequest (t : TankIx) (s : State) : State :=
  match (s.tank t).cfg with
  | none => s
  | some c =>
    let x := s.tank t
    let s := ownerRequest c.inlet.act (valveValue c.inlet (inletOpen x)) s
    let s := ownerRequest c.drain.act (valveValue c.drain (drainOpen x)) s
    ownerRequest c.rework.act (valveValue c.rework (reworkOpen x)) s

/-- R150: a change of state with its requests. -/
def tankGo (t : TankIx) (st : TankState) (s : State) : State :=
  tankRequest t (s.setTank t { s.tank t with state := st })

/-! ## Batch record and reports (R149, R160) -/

/-- Change the batch record of a tank, if it has one. -/
def updBatch (t : TankIx) (f : Batch → Batch) (s : State) : State :=
  s.setTank t { s.tank t with batch := (s.tank t).batch.map f }

/-- R160: a BATCH report carries the batch record whole as it stands. -/
def raiseBatch (t : TankIx) (stage : BatchStage) (s : State) : State :=
  match (s.tank t).batch with
  | some b => raise (.batch stage b s.clock) s
  | none => s

/-- The batch number of a tank's record; 0 without one. -/
def batchNumber (x : Tank) : Nat := match x.batch with | some b => b.number | none => 0

/-! ## The outlet snapshot (R161) -/

/-- R161: the outlet snapshot at entry into RELEASING or REWORK. -/
def outletSnapshot (t : TankIx) (c : TankCfg) (s : State) : State :=
  let n := match counterSource (s.point c.outletPoint) with
    | some (q, _) => if counterMapped s q then counterValue s q else 0
    | none => 0
  s.setTank t { s.tank t with outSnapshot := n }

/-! ## Credits to tanks and chains (R138, R153) -/

/-- R153: a credit to a tank, in every state and on an unloaded record. -/
def creditTank (t : TankIx) (m v : Nat) (s : State) : State :=
  let x := s.tank t
  s.setTank t { x with fillMass := add48 x.fillMass m, fillVol := add48 x.fillVol v }

/-- R138: a credit to a chain, whatever the record's state. -/
def creditChain (k : ChainIx) (m v : Nat) (s : State) : State :=
  let x := s.chain k
  let x := { x with volume := satAdd Config.max32 x.volume v }
  s.setChain k
    (if x.posA.state = .lead then { x with posA := { x.posA with loading := add48 x.posA.loading m } }
     else if x.posB.state = .lead then { x with posB := { x.posB with loading := add48 x.posB.loading m } }
     else { x with unplaced := add48 x.unplaced m })

/-- R21: add to an account. -/
def creditAccount (x : Account) (m v : Nat) : Account := { mass := add48 x.mass m, volume := add48 x.volume v }

/-- R21: a credit to the return account. -/
def creditReturn (m v : Nat) (s : State) : State :=
  s.setAccounts { s.accounts with ret := creditAccount s.accounts.ret m v }

/-- R21: a credit to the unrouted account. -/
def creditUnrouted (m v : Nat) (s : State) : State :=
  s.setAccounts { s.accounts with unrouted := creditAccount s.accounts.unrouted m v }

/-- The level point is usable and its value at or below the tank's low level. -/
def atLowLevel (s : State) (c : TankCfg) : Bool :=
  usable (s.point c.levelPoint) && (s.point c.levelPoint).value ≤ c.low

/-! ## Entry into rework (R162) -/

/-- R162, R163: whether a rework is paused: the destination does not accept, or the outlet is not available. -/
def reworkPaused (s : State) (c : TankCfg) : Bool := !(reworkAccepts s c.reworkDest && outletAvailable s c)

/-- R162, steps 1 to 4: cause, outlet snapshot, pause flag, state and requests. -/
def reworkState (t : TankIx) (cause : ReworkCause) (s : State) : State :=
  match (s.tank t).cfg with
  | none => s
  | some c =>
    let s := updBatch t (fun b => { b with cause := cause }) s
    let s := outletSnapshot t c s
    let s := s.setTank t { s.tank t with paused := reworkPaused s c }
    tankGo t .rework s

/-- R162, steps 5 and 6: TANK_REWORK and the BATCH report. -/
def reworkReports (t : TankIx) (cause : ReworkCause) (s : State) : State :=
  raiseBatch t .rework
    (raiseAlert .tankRework (.tank t) [reworkCauseCode cause, batchNumber (s.tank t)] s)

/-- R162: entry into REWORK. -/
def enterRework (t : TankIx) (cause : ReworkCause) (s : State) : State := reworkReports t cause (reworkState t cause s)

/-! ## Filling, mixing, testing (R155 to R160) -/

/-- R156: the tank goes to TESTING. -/
def toTesting (t : TankIx) (c : TankCfg) (s : State) : State :=
  tankGo t .testing
    (s.setTank t
      { s.tank t with
        silverSamples := 0, phSamples := 0, deferred := false, dwell := none
        test := some (c.timeout * Config.secondMs) })

/-- R155, steps 1 to 4: batch number, batch record, fill sums and outflow residues at close of fill. -/
def openBatch (t : TankIx) (s : State) : State :=
  let x := s.tank t
  let n := (x.batchNo + 1) % 65536
  s.setTank t
    { x with
      batchNo := n
      batch := some { tank := t, number := n, volume := min x.fillVol 4000000000, fillMass := x.fillMass }
      fillMass := 0, fillVol := 0, outVolResidue := 0, outMassResidue := 0 }

/-- R155: close of fill. A change through MIXING with a dwell of 0 requests the values of TESTING alone (R150). -/
def closeOfFill (t : TankIx) (c : TankCfg) (s : State) : State :=
  let s := openBatch t s
  if c.dwell = 0 then toTesting t c s
  else
    let s := s.setTank t { s.tank t with dwell := some (c.dwell * Config.secondMs) }
    tankGo t .mixing s

/-- R160: a passed batch: QUEUED, the tail of the release queue, a BATCH report. -/
def toQueued (t : TankIx) (s : State) : State :=
  let s := tankGo t .queued s
  let s := s.setDisch { s.disch with queue := s.disch.queue ++ [t] }
  raiseBatch t .queued s

/-- R158, step 4: why a batch fails against the permit as it stands, or NONE for a pass. -/
def testVerdict (permit : Option PermitCfg) (b : Batch) : ReworkCause :=
  match permit with
  | none => .noPermit
  | some p =>
    if p.concCap < b.conc then .testFailed
    else if b.phMin < p.phLow || p.phHigh < b.phMax then .testFailed
    else .none

/-- R158, steps 2 and 3: the volume and the estimated mass of the batch. -/
def estimateBatch (level capacity : Nat) (b : Batch) : Batch :=
  let v := roundHalfUp (level * capacity) 1000
  { b with volume := v, estimate := roundUp (b.conc * v) 1000 }

/-- R158, steps 1 to 3. -/
def beginDecision (t : TankIx) (c : TankCfg) (s : State) : State :=
  let s := s.setTank t { s.tank t with test := none, deferred := false }
  updBatch t (estimateBatch (s.point c.levelPoint).value c.capacity) s

/-- R158: the test decision. -/
def testDecision (t : TankIx) (c : TankCfg) (s : State) : State :=
  let s := beginDecision t c s
  match (s.tank t).batch with
  | none => s
  | some b =>
    match testVerdict s.disch.permit b with
    | .none => toQueued t s
    | cause => enterRework t cause s

/-- R157, R158: both counts are complete: the decision, or its deferral for want of a usable level. -/
def countsComplete (t : TankIx) (c : TankCfg) (s : State) : State :=
  if usable (s.point c.levelPoint) then testDecision t c s
  else s.setTank t { s.tank t with deferred := true }

/-- R157: a silver reading counted toward the test. -/
def silverSample (v : Nat) (x : Tank) : Tank :=
  { x with silverSamples := x.silverSamples + 1, batch := x.batch.map fun b => { b with conc := max b.conc v } }

/-- R157: a pH reading counted toward the test. -/
def phSample (v : Nat) (x : Tank) : Tank :=
  { x with
    phSamples := x.phSamples + 1
    batch := x.batch.map fun b => { b with phMin := min b.phMin v, phMax := max b.phMax v } }

/-- R157: after a counted reading, the decision when it completes both counts. -/
def afterSample (t : TankIx) (c : TankCfg) (s : State) : State :=
  if (s.tank t).silverSamples = c.samples && (s.tank t).phSamples = c.samples then countsComplete t c s else s

/-- R157: a tank takes a converted reading of point `p` with value `v`, when it is TESTING and names the point. -/
def testSample (p : PointIx) (v : Nat) (t : TankIx) (s : State) : State :=
  match (s.tank t).cfg with
  | none => s
  | some c =>
    if (s.tank t).state = .testing then
      if c.silverPoint = p && (s.tank t).silverSamples < c.samples then
        afterSample t c (s.setTank t (silverSample v (s.tank t)))
      else if c.phPoint = p && (s.tank t).phSamples < c.samples then
        afterSample t c (s.setTank t (phSample v (s.tank t)))
      else s
    else s

/-- R44, R157: every tank in TESTING that names the point takes the reading. Log 11, the model's choice: from T0 to T3. -/
def testSamples (p : PointIx) (v : Nat) (s : State) : State :=
  (List.finRange 4).foldl (fun s t => testSample p v t s) s

end Sys2Proof.Machine
end

