-- ==== Sys2Proof/Machine/Chains.lean ====
section
/-! DEFINITION. The Chain Manager (chapter 7): metering, spending the lead, installing and removing cartridges, and CHAIN_METERING. -/

namespace Sys2Proof.Machine

/-- R137: the order actuator value of the LEAD position, if there is one. -/
def leadValue (c : ChainCfg) (x : Chain) : Option Nat :=
  if x.posA.state = .lead then some c.aFirst else if x.posB.state = .lead then some c.bFirst else none

/-- R140: the tail concentration of a usable tail point. -/
def tailConc (s : State) (c : ChainCfg) : Option Nat :=
  match c.tail with
  | none => none
  | some p => if usable (s.point p) then some (s.point p).value else none

/-- R140: tail mass into a lag position. -/
def lagTail (ct w : Nat) (p : Position) : Position :=
  let sum := ct * w + p.tailResidue
  { p with loading := add48 p.loading (sum / 1000), tailResidue := sum % 1000 }

/-- R140: part 2 of a metering: the tail mass of volume `w` at tail concentration `ct`. -/
def creditTail (ct w : Nat) (x : Chain) : Chain :=
  if x.posA.state = .lag then { x with posA := lagTail ct w x.posA }
  else if x.posB.state = .lag then { x with posB := lagTail ct w x.posB }
  else
    let sum := ct * w + x.passedResidue
    { x with passed := add48 x.passed (sum / 1000), passedResidue := sum % 1000 }

/-- R141: part 3 of a metering: the breakthrough run; held when the tail point is present but not usable. -/
def countRun (c : ChainCfg) (ct : Option Nat) (x : Chain) : Chain :=
  match ct with
  | some t => if c.limit < t then { x with run := satAdd 255 x.run 1 } else { x with run := 0 }
  | none => if c.tail.isNone then { x with run := 0 } else x

/-- R142: the lead has broken through. -/
def brokenThrough (c : ChainCfg) (x : Chain) : Bool := c.count ≤ x.run

/-- R142: a lead's loading has reached its share of the capacity. -/
def capacityReached (c : ChainCfg) (p : Position) : Bool := p.capacity * c.swap ≤ p.loading * 1000

/-- R142: the code of the cause: BREAKTHROUGH 1, CAPACITY 2, BOTH 3; 0 when neither holds. -/
def spentCause (c : ChainCfg) (x : Chain) (lead : Position) : Nat :=
  (if brokenThrough c x then 1 else 0) + (if capacityReached c lead then 2 else 0)

/-- R142: the position is spent, and a LAG behind it becomes LEAD. -/
def spend (leadIsA : Bool) (x : Chain) : Chain :=
  let up (p : Position) : Position := if p.state = .lag then { p with state := .lead } else p
  if leadIsA then { x with run := 0, posA := { x.posA with state := .spent }, posB := up x.posB }
  else { x with run := 0, posB := { x.posB with state := .spent }, posA := up x.posA }

/-- R142: the request and the alert of a spent lead. -/
def spentEffects (k : ChainIx) (c : ChainCfg) (detail : List Nat) (s : State) : State :=
  match leadValue c (s.chain k) with
  | some v => raiseAlert .cartridgeSpent (.chain k) detail (ownerRequest c.order v s)
  | none => raiseAlert .chainExhausted (.chain k) detail s

/-- R142: part 4 of a metering: test the lead, which is A or B. -/
def testLead (k : ChainIx) (c : ChainCfg) (leadIsA : Bool) (s : State) : State :=
  let x := s.chain k
  let lead := if leadIsA then x.posA else x.posB
  let cause := spentCause c x lead
  if cause = 0 then s
  else
    spentEffects k c [if leadIsA then 1 else 2, cause, lead.loading, lead.capacity]
      (s.setChain k (spend leadIsA x))

/-- R137, R139: part 5 of a metering: request the lead's value when the desired value differs. -/
def orderRequest (k : ChainIx) (c : ChainCfg) (s : State) : State :=
  match leadValue c (s.chain k) with
  | some v => if (s.actuator c.order).desired = v then s else ownerRequest c.order v s
  | none => s

/-- R139, parts 3 to 5, for a chain with a LEAD. -/
def meterLead (k : ChainIx) (c : ChainCfg) (ct : Option Nat) (s : State) : State :=
  let s := s.setChain k (countRun c ct (s.chain k))
  orderRequest k c (testLead k c ((s.chain k).posA.state = .lead) s)

/-- R139, R140: parts 1 and 2: the metering volume and its tail mass. -/
def meterTail (ct : Option Nat) (x : Chain) : Chain :=
  let x' := { x with volume := 0 }
  match ct with
  | some t => creditTail t x.volume x'
  | none => x'

/-- R139: the metering of a loaded chain, with the timer restarted. -/
def meterChain (k : ChainIx) (c : ChainCfg) (s : State) : State :=
  let ct := tailConc s c
  let s := s.setChain k (meterTail ct { s.chain k with metering := some Config.secondMs })
  if hasLead (s.chain k) then meterLead k c ct s else s

/-- R139: the metering timer of a chain expires; it runs while the record is loaded. -/
def chainExpired (k : ChainIx) (s : State) : State :=
  match (s.chain k).cfg with
  | none => s
  | some c => if (s.chain k).metering.isSome then meterChain k c s else s

/-- CHAIN_METERING (R139). -/
def execChainMetering (k : ChainIx) (s : State) : Answer := s.live (chainExpired k)

/-! ## Cartridges (R135, R136) -/

/-- One of the two positions; `true` is A. -/
def posOf (x : Chain) (isA : Bool) : Position := if isA then x.posA else x.posB

/-- Replace one of the two positions. -/
def setPos (x : Chain) (isA : Bool) (p : Position) : Chain :=
  if isA then { x with posA := p } else { x with posB := p }

/-- R135: record a fresh cartridge: LAG behind a lead, LEAD otherwise; a new lead requests the order actuator. -/
def installCartridge (k : ChainIx) (c : ChainCfg) (isA : Bool) (capacity : Nat) (s : State) : State :=
  let x := s.chain k
  if (posOf x (!isA)).state = .lead then
    s.setChain k (setPos x isA { state := .lag, capacity := capacity })
  else
    let s := s.setChain k { setPos x isA { state := .lead, capacity := capacity } with run := 0 }
    ownerRequest c.order (if isA then c.aFirst else c.bFirst) s

end Sys2Proof.Machine
end

