-- ==== Sys2Proof/Machine/Discharge.lean ====
section
/-! DEFINITION. The Discharge Controller (chapter 9): the plant clock and the permit day, the consumed counter, stops of a release,
effluent readings, and handing a converted reading on. Release metering and evaluation are in Machine/Metering.lean. -/

namespace Sys2Proof.Machine

/-! ## Consumed mass (R170, R171) -/

/-- R171: BUDGET_LOW is due. -/
def lowDue (s : State) : Bool :=
  s.disch.permit.any fun p =>
    !s.disch.lowAlerted && p.lowPermille ≠ 0 && remainingBudget s * 1000 < p.lowPermille * p.cap

/-- R171: BUDGET_EXHAUSTED is due. -/
def exhaustedDue (s : State) : Bool :=
  s.disch.permit.any fun p => !s.disch.exhaustedAlerted && p.cap ≤ s.disch.consumed

/-- The daily mass cap of a loaded permit; 0 without one. -/
def capOf (s : State) : Nat := match s.disch.permit with | some p => p.cap | none => 0

/-- R171: raise BUDGET_LOW, once a permit day. -/
def alertLow (s : State) : State :=
  if lowDue s then
    let s := raiseAlert .budgetLow .permit [remainingBudget s, capOf s] s
    s.setDisch { s.disch with lowAlerted := true }
  else s

/-- R171: raise BUDGET_EXHAUSTED, once a permit day. -/
def alertExhausted (s : State) : State :=
  if exhaustedDue s then
    let s := raiseAlert .budgetExhausted .permit [s.disch.consumed, capOf s] s
    s.setDisch { s.disch with exhaustedAlerted := true }
  else s

/-- R171: the comparisons after an addition or a permit load, BUDGET_LOW before BUDGET_EXHAUSTED. -/
def budgetAlerts (s : State) : State := alertExhausted (alertLow s)

/-- R170: deliver an increment to consumed today; a delivery of 0 changes nothing. -/
def consume (m : Nat) (s : State) : State :=
  if m = 0 then s else budgetAlerts (s.setDisch { s.disch with consumed := add48 s.disch.consumed m })

/-- R179: consumed today stands at or above the cap of a loaded permit. -/
def capReached (s : State) : Bool := s.disch.permit.any fun p => p.cap ≤ s.disch.consumed

/-! ## Stopping a release (R179) -/

/-- R179: the code of a stop cause, by its place in the table. -/
def stopCauseCode : StopCause → Nat
  | .budget => 1 | .meterLost => 2 | .drainFailed => 3 | .fallback => 4 | .safeHold => 5 | .effluent => 6

/-- R179: RELEASE_STOPPED carries the cause, the batch number and the remaining estimate. -/
def raiseStopped (t : TankIx) (cause : StopCause) (s : State) : State :=
  raiseAlert .releaseStopped (.tank t)
    [stopCauseCode cause, batchNumber (s.tank t), remainingEstimate (s.tank t)] s

/-- R174, R179: the stopped tank is QUEUED again, at the head of the release queue. -/
def requeue (t : TankIx) (s : State) : State :=
  tankGo t .queued (s.setDisch { s.disch with queue := t :: s.disch.queue })

/-- R179: stop the release in progress, if there is one. -/
def stopRelease (cause : StopCause) (s : State) : State :=
  match releasingTank s with
  | none => s
  | some t =>
    match cause with
    | .effluent => reworkReports t .effluent (raiseStopped t cause (reworkState t .effluent s))
    | .budget => raiseStopped t cause (requeue t s)
    | .meterLost => raiseStopped t cause (requeue t s)
    | .drainFailed => raiseStopped t cause (requeue t s)
    | .fallback => raiseStopped t cause (requeue t s)
    | .safeHold => raiseStopped t cause (requeue t s)

/-- R170, R179: a stream's delivery stops the release when it leaves consumed today at or above the cap. -/
def deliverDrain (m : Nat) (s : State) : State :=
  let s := consume m s
  if m ≠ 0 && capReached s then stopRelease .budget s else s

/-- R179: the actuator has entered REFUSED or FAILED; a tank RELEASING through it stops (log 24). -/
def drainFailed (a : ActIx) (s : State) : State :=
  if (s.actuator a).state = .refused || (s.actuator a).state = .failed then
    match releasingTank s with
    | none => s
    | some t => if (s.tank t).cfg.any (·.drain.act = a) then stopRelease .drainFailed s else s
  else s

/-! ## The clock and the permit day (R168, R169) -/

/-- R169: the permit day of a permit and a clock. -/
def dayOf (permit : Option PermitCfg) (clock : Option ClockTime) : Option Nat :=
  match permit, clock with
  | some p, some c => some (if p.dayStart ≤ c.sec then c.day else (c.day + 65535) % 65536)
  | _, _ => none

/-- R169: the rollover from one permit day to another. -/
def rollover (old new : Nat) (s : State) : State :=
  let d := s.disch
  let s := raise (.day old d.consumed (capOf s) d.released d.peak s.clock) s
  s.setDisch
    { s.disch with
      consumed := 0, released := 0, peak := 0, lowAlerted := false, exhaustedAlerted := false, permitDay := some new }

/-- R169: the permit day recomputed at a count of the clock or at a SET_CLOCK, with its rollover if any. -/
def recomputeDay (s : State) : State :=
  match s.disch.permitDay, dayOf s.disch.permit s.disch.clock with
  | some old, some new => if old = new then s else rollover old new s
  | _, new => s.setDisch { s.disch with permitDay := new }

/-- R168: one second later. -/
def nextSecond (c : ClockTime) : ClockTime :=
  if c.sec < 86399 then { c with sec := c.sec + 1 } else { day := (c.day + 1) % 65536, sec := 0 }

/-- R168, R169: the count of the plant clock. -/
def countClock (s : State) : State :=
  match s.disch.clock with
  | none => s
  | some c => recomputeDay (s.setDisch { s.disch with clock := some (nextSecond c) })

/-! ## Effluent readings (R173) -/

/-- R173: a reading breaks the caps. The limits are CONCENTRATION 1, PH_LOW 2, PH_HIGH 3. -/
def breakCaps (p : PointIx) (v limit : Nat) (s : State) : State :=
  stopRelease .effluent (raiseAlert .effluentHigh (.point p) [v, limit] s)

/-- R173: a converted reading of the effluent silver point. -/
def effluentSilver (c : PermitCfg) (p : PointIx) (v : Nat) (s : State) : State :=
  let s := s.setDisch { s.disch with peak := max s.disch.peak v }
  if c.concCap < v then breakCaps p v 1 s else s

/-- R173: a converted reading of the effluent pH point. -/
def effluentPh (c : PermitCfg) (p : PointIx) (v : Nat) (s : State) : State :=
  if v < c.phLow then breakCaps p v 2 s else if c.phHigh < v then breakCaps p v 3 s else s

/-- R173: a converted reading handed on while the permit is loaded and names the point. -/
def effluentReading (p : PointIx) (v : Nat) (s : State) : State :=
  match s.disch.permit with
  | none => s
  | some c =>
    let s := if c.silverPoint = p then effluentSilver c p v s else s
    if c.phPoint = p then effluentPh c p v s else s

/-! ## Handing a reading on (R42, R44) -/

/-- R44: a converted reading is handed to the testing tanks, then to the Discharge Controller (log 11). -/
def handOn (p : PointIx) (v : Nat) (s : State) : State := effluentReading p v (testSamples p v s)

/-- R37, R42, R44: the value of a COUNTER point, once its consumer has handed it over and it is stored, is a converted reading like any
other and is handed on. -/
def takeCounter (p : PointIx) (n k : Nat) (s : State) : State :=
  let s := handCounter p n k s
  handOn p (s.point p).value s

end Sys2Proof.Machine
end

