-- ==== Sys2Proof/Machine/Measurement.lean ====
section
/-! DEFINITION. Readings taken by the Measurement Unit (R39 to R43), the converter's round (R102), and the timed commands
AGE_TIMER_EXPIRY and ANALOG_SAMPLING_ROUND. -/

namespace Sys2Proof.Machine

/-- R37, R43, R44: a converted reading is stored, mirrored and handed on. -/
def acceptReading (p : PointIx) (v : Nat) (q : Quality) (s : State) : State :=
  handOn p v (mirror p (storeReading p v q s))

/-- R39, R41, R46 to R48: a raw figure from a healthy source. -/
def takeRaw (p : PointIx) (raw : Int) (s : State) : State :=
  match (s.point p).cfg with
  | none => s
  | some c =>
    let s := setRaw p raw s
    match convert s c raw with
    | none => failPoint p .noCurve s
    | some (v, q) => acceptReading p v q s

/-- R39: the delivery of a poll's reading: point, node and channel polled, value, node status FAULT. -/
def deliverReading (p : PointIx) (n : NodeIx) (ch : Channel) (raw : Int) (fault : Bool) (s : State) : State :=
  if fieldSource (s.point p) = some (n, ch) then
    if fault then failPoint p .nodeFault (setRaw p raw s) else takeRaw p raw s
  else s

/-- R41: a SWITCH point on a pin mapped INPUT takes the debounced state. -/
def takeSwitch (p : PointIx) (active : Bool) (s : State) : State :=
  acceptReading p (if active then 1000 else 0) .good (setRaw p active.toNat s)

/-- R94: the pin is mapped INPUT. -/
def isInput : PinFn → Bool
  | .input .. => true
  | _ => false

/-- R41, R42: one point at a sampling event. -/
def samplePoint (p : PointIx) (s : State) : State :=
  match (s.point p).cfg with
  | some { source := .analog l, .. } =>
    if (s.pin l).fn = .analog then takeRaw p (s.pin l).sample.toNat s else failPoint p .unmapped s
  | some { source := .switch l, .. } =>
    if isInput (s.pin l).fn then takeSwitch p (s.pin l).debounced s else failPoint p .unmapped s
  | some { source := .counter q _, .. } => if counterMapped s q then s else failPoint p .unmapped s
  | some { source := .field .., .. } => s
  | none => s

/-- R41, R42: the sampling event takes every loaded point of source ANALOG, SWITCH or COUNTER. Log 11, the model's choice: from P0 to P31 in
one pass. -/
def samplingEvent (s : State) : State := (List.finRange 32).foldl (fun s p => samplePoint p s) s

/-- R102: the sample that a conversion gives: 4095 at or above the reference, and below it the fraction of the reference times 4096,
truncated, so 0 at 0 V. -/
def sampleOf (c : Conversion) : BitVec 12 :=
  if c.reference ≤ c.input then 4095 else BitVec.ofNat 12 (c.input * 4096 / c.reference)

/-- R102: one conversion: a pin mapped ANALOG takes the sample of its input; any other pin is skipped. -/
def convertPin (p : PinIx) (c : Conversion) (s : State) : State :=
  if (s.pin p).fn = .analog then s.setPin p { s.pin p with sample := sampleOf c } else s

/-- R102: the conversion round, from L8 to L11. -/
def conversionRound (l8 l9 l10 l11 : Conversion) (s : State) : State :=
  convertPin 11 l11 (convertPin 10 l10 (convertPin 9 l9 (convertPin 8 l8 s)))

/-- ANALOG_SAMPLING_ROUND (R41, R102): the conversions on L8 to L11, then the sampling event (log 27). -/
def execAnalogSamplingRound (l8 l9 l10 l11 : Conversion) (s : State) : Answer :=
  s.live fun s =>
    samplingEvent (conversionRound l8 l9 l10 l11 (s.setTimers { s.timers with sampling := Config.tenthMs }))

/-- AGE_TIMER_EXPIRY (R38): every loaded point ages. -/
def execAgeTimerExpiry (s : State) : Answer :=
  s.live fun s => { s with points := eachOf agePoint s.points, timers := { s.timers with age := Config.secondMs } }

end Sys2Proof.Machine
end

