-- ==== Sys2Proof/Machine/Results.lean ====
section
/-! DEFINITION. RESULTs of the Plant Port (R194, R204): how one joins the results that wait to be sent. -/

namespace Sys2Proof.Machine

/-- A RESULT item joins those that wait, in the order produced (R194). -/
def pushItem (r : ResultItem) (s : State) : State := s.setPort { s.port with results := s.port.results ++ [r] }

/-- R194: the RESULT of a pass-through that ends after its execution; the port does not hold for it. -/
def passResult (tag : Byte) (code : Code) (content : List Byte) (s : State) : State :=
  pushItem { tag := tag, code := code, part := 0, last := true, content := content, origin := .passThrough } s

/-- R66: every entry leaves the pass-through queue with a result, in queue order. -/
def flushPass (code : Code) (s : State) : State :=
  s.line.passQ.foldl (fun s e => passResult e.tag code [] s) (s.setLine { s.line with passQ := [] })

/-- R194: the content of a RESULT in parts of at most 237 bytes, numbered from `n`. -/
def resultParts (tag : Byte) (code : Code) (origin : Origin) : Nat → Nat → List Byte → List ResultItem
  | 0, n, bs => [{ tag, code, part := n, last := true, content := bs, origin }]
  | fuel + 1, n, bs =>
    if bs.length ≤ Config.resultPart then [{ tag, code, part := n, last := true, content := bs, origin }]
    else
      { tag, code, part := n, last := false, content := bs.take Config.resultPart, origin }
        :: resultParts tag code origin fuel (n + 1) (bs.drop Config.resultPart)

/-- R194: an executed request's RESULT: its parts are produced together, and the port holds until the last has begun. -/
def answerWith (tag : Byte) (code : Code) (content : List Byte) (s : State) : State :=
  s.setPort
    { s.port with
      results := s.port.results ++ resultParts tag code .executed content.length 0 content
      holding := true }

/-- An executed request's RESULT without content. -/
def answer (tag : Byte) (code : Code) (s : State) : State := answerWith tag code [] s

end Sys2Proof.Machine
end

