-- ==== Sys2Proof/Machine/FieldLine.lean ====
section
/-! DEFINITION. The Field Line Controller (chapter 3): frames, attempts, outcomes, node health, the scheduler, ALL-SAFE, and the
commands of the field line. -/

namespace Sys2Proof.Machine

/-! ## Frames (R203) -/

/-- R203: a field frame: six bytes and their CRC-8. -/
def fieldFrame (address kind channel value status : Nat) : List Byte :=
  let body := be 1 address ++ be 1 kind ++ be 1 channel ++ be 2 value ++ be 1 status
  body ++ [crc8 body]

/-- R52: the transaction is a POLL. -/
def isPoll : Job → Bool
  | .poll .. => true
  | .control .. => false
  | .pass .. => false

/-- R52, R203: the request frame of a transaction. -/
def requestFrame (x : Exchange) : List Byte :=
  if isPoll x.job then fieldFrame (nodeNumber x.node) 1 x.channel.val 0 0
  else fieldFrame (nodeNumber x.node) 3 x.channel.val x.value 0

/-- R70, R203: the ALL-SAFE frame. -/
def allSafeFrame : List Byte := fieldFrame 0 7 0 0 0

/-- The frame that the part is transmitting on the field line, if any. -/
def frameOnLine (s : State) : Option (List Byte) :=
  match s.line.hold with
  | .exchange x => if x.phase = .sending then some (requestFrame x) else none
  | .allSafeSending => some allSafeFrame
  | .allSafeSettling => none
  | .quiet => none
  | .none => none

/-- R203: the reason that a REFUSE carries. -/
def refuseReason (n : Nat) : Option ActReason :=
  if n = 1 then some .notAllowed else if n = 2 then some .outOfRange else if n = 3 then some .localMode else none

/-- R52, R53, R203: the reply that a frame's kind, value and status spell for a transaction, each field holding a value defined
for that kind. -/
def replyOf (x : Exchange) (kind value status : Nat) : Option Reply :=
  if kind = 6 then (if value = 0 && status = 0 then some .holdoff else none)
  else if isPoll x.job then
    if kind = 2 && status ≤ 1 then some (.reading (signed16 value) (status = 1)) else none
  else if kind = 4 then (if value = x.value && value ≤ 1000 && status = 0 then some (.confirm value) else none)
  else if kind = 5 then (if value = 0 then (refuseReason status).map .refuse else none)
  else none

/-- R53: the reply that a received frame is to a transaction, or none when it fails any condition. -/
def replyIn (x : Exchange) (frame : List Byte) : Option Reply :=
  if frame.length = 7 && frame.drop 6 = [crc8 (frame.take 6)] && fieldAt frame 0 1 = nodeNumber x.node
      && fieldAt frame 2 1 = x.channel.val then
    replyOf x (fieldAt frame 1 1) (fieldAt frame 3 2) (fieldAt frame 5 1)
  else none

/-- What holds the line changes. -/
def setHold (h : Hold) (s : State) : State := s.setLine { s.line with hold := h }

/-! ## Node health (R59, R60) -/

/-- R59: a transaction to the node ended with a reply taken; `kind` is POLL 1 or SET 2. -/
def nodeReplied (n : NodeIx) (kind : Nat) (s : State) : State :=
  let h := s.node n
  let s := s.setNode n { h with state := .online, count := 0 }
  if h.state = .lost then raiseAlert .nodeBack (.node n) [kind] s else s

/-- R60: a transaction to the node failed. -/
def nodeFailed (n : NodeIx) (reason : FailReason) (s : State) : State :=
  let h := s.node n
  if h.state = .lost then s.setNode n { h with reason := some reason }
  else if h.count < 2 then s.setNode n { state := .suspect, count := h.count + 1, reason := some reason }
  else
    let s := s.setNode n { state := .lost, count := 3, reason := some reason }
    failNode n (raiseAlert .nodeLost (.node n) [failReasonCode reason] s)

/-! ## Outcomes (R56, R64, R81, R82, R92) -/

/-- R64: the last outcome of a polled entry, unless it was loaded or emptied since the poll started. -/
def scanOutcome (i : ScanIx) (rewritten : Bool) (o : ScanOutcome) (s : State) : State :=
  if rewritten then s else s.setScanEntry i { s.scanEntry i with last := o }

/-- R56, R82: a control set was refused or failed; a void transaction's outcome is discarded (R76). -/
def controlRefused (a : ActIx) (void : Bool) (state : ActState) (reason : ActReason) (v : Nat) (s : State) : State :=
  if void then s else drainFailed a (takeRefusal a state reason v s)

/-- R55: the reason of a failure as the actuator's last reason. -/
def failActReason : FailReason → ActReason
  | .silent => .silent
  | .holdoffLimit => .holdoffLimit

/-- R55: the reason of a failure as a scan entry's last outcome. -/
def failScanOutcome : FailReason → ScanOutcome
  | .silent => .silent
  | .holdoffLimit => .holdoffLimit

/-- R56: the transaction fails: the node's health, then the requester. -/
def endFailed (x : Exchange) (reason : FailReason) (s : State) : State :=
  let s := nodeFailed x.node reason (setHold .none s)
  match x.job with
  | .poll i _ rewritten => scanOutcome i rewritten (failScanOutcome reason) s
  | .control a void => controlRefused a void .failed (failActReason reason) x.value s
  | .pass tag _ => passResult tag .failed (be 1 (failReasonCode reason)) s

/-- R56: a POLL ends with a READING. -/
def endReading (x : Exchange) (raw : Int) (fault : Bool) (s : State) : State :=
  let s := nodeReplied x.node 1 (setHold .none s)
  match x.job with
  | .poll i p rewritten => deliverReading p x.node x.channel raw fault (scanOutcome i rewritten .reading s)
  | .control .. => s
  | .pass .. => s

/-- R56: a SET ends with a CONFIRM. -/
def endConfirm (x : Exchange) (v : Nat) (s : State) : State :=
  let s := nodeReplied x.node 2 (setHold .none s)
  match x.job with
  | .poll .. => s
  | .control a void => if void then s else takeConfirm a v s
  | .pass tag clamped => passResult tag (if clamped then .clamped else .ok) (be 2 v) s

/-- R56: a SET ends with a REFUSE. -/
def endRefused (x : Exchange) (reason : ActReason) (s : State) : State :=
  let s := nodeReplied x.node 2 (setHold .none s)
  match x.job with
  | .poll .. => s
  | .control a void => controlRefused a void .refused reason x.value s
  | .pass tag _ => passResult tag .refused (be 1 (actReasonCode reason)) s

/-- R55: a silent attempt: the request is sent again, or the transaction fails SILENT. -/
def silentAttempt (x : Exchange) (s : State) : State :=
  if x.silents = 0 then setHold (.exchange { x with silents := 1, phase := .resend }) s
  else endFailed x .silent s

/-- R54: a HOLDOFF: the holdoff delay runs, or the fourth fails the transaction. -/
def takeHoldoff (x : Exchange) (s : State) : State :=
  if x.holdoffs < 3 then setHold (.exchange { x with holdoffs := x.holdoffs + 1, phase := .holdoff }) s
  else endFailed x .holdoffLimit s

/-- R53 to R56: a frame received within the reply window. -/
def takeFrame (x : Exchange) (frame : List Byte) (s : State) : State :=
  match replyIn x frame with
  | none => silentAttempt x s
  | some (.reading raw fault) => endReading x raw fault s
  | some (.confirm v) => endConfirm x v s
  | some (.refuse reason) => endRefused x reason s
  | some .holdoff => takeHoldoff x s

/-! ## ALL-SAFE (R69 to R72) -/

/-- R72: an abandoned transaction, by its kind. -/
def abandon (x : Exchange) (s : State) : State :=
  match x.job with
  | .poll i _ rewritten =>
    if rewritten then s else s.setScanEntry i { s.scanEntry i with owed := true, last := .abandoned }
  | .control a void =>
    if void then s
    else
      let s := s.setActuator a { s.actuator a with state := .pending }
      s.setLine { s.line with controlQ := a :: s.line.controlQ }
  | .pass tag _ => passResult tag .abandoned [] s

/-- R69, R71: an ALL-SAFE is raised; a transaction in hand is abandoned at once unless its request frame is being transmitted. -/
def raiseAllSafe (s : State) : State :=
  let s := s.setLine { s.line with allSafePending := true }
  match s.line.hold with
  | .exchange x =>
    match x.phase with
    | .sending => s
    | .window => setHold .quiet (abandon x s)
    | .holdoff => setHold .none (abandon x s)
    | .resend => setHold .none (abandon x s)
  | _ => s

/-! ## The scheduler (R64 to R68, R92) -/

/-- R57: a transaction starts with the line parameters as they stand. -/
def startExchange (job : Job) (n : NodeIx) (ch : Channel) (v : Nat) (s : State) : State :=
  setHold
    (.exchange
      { job, node := n, channel := ch, value := v, phase := .sending, holdoffs := 0, silents := 0, params := s.line.params }) s

/-- R68: the set-run count at the start of a SET. -/
def runAfterSet (s : State) : Nat := if (firstDue s).isSome then satAdd Config.fairRun s.line.setRun 1 else 0

/-- R68: set the set-run count. -/
def setSetRun (n : Nat) (s : State) : State := s.setLine { s.line with setRun := n }

/-- R64, R68: the poll of a scan entry starts. -/
def startPoll (i : ScanIx) (s : State) : State :=
  match (s.scanEntry i).slot with
  | none => s
  | some (p, _) =>
    match fieldSource (s.point p) with
    | none => s
    | some (n, ch) =>
      let s := s.setScanEntry i { s.scanEntry i with since := some 0, owed := false }
      startExchange (.poll i p false) n ch 0 (setSetRun 0 s)

/-- R67: the poll of the due entry with the lowest number, if there is one. -/
def startDue (s : State) : State := match firstDue s with | some i => startPoll i s | none => s

/-- R65, R68: the control set of the queue's head starts with the desired value as it stands. -/
def startControl (a : ActIx) (s : State) : State :=
  let run := runAfterSet s
  let s := dequeue a s
  match (s.actuator a).cfg with
  | some { binding := .field n ch, .. } =>
    let s := s.setActuator a { s.actuator a with state := .inFlight }
    startExchange (.control a false) n ch (s.actuator a).desired (setSetRun run s)
  | _ => s

/-- R66, R92: the pass-through queue's head is checked again; a barred head leaves INTERLOCKED and the choice goes on. -/
def choosePass : List PassEntry → State → State
  | [], s => startDue s
  | e :: rest, s =>
    let s' := s.setLine { s.line with passQ := rest }
    match interlockCheck s' e.node e.channel e.value with
    | none => choosePass rest (passResult e.tag .interlocked [] s')
    | some (v, clamped) =>
      startExchange (.pass e.tag (e.clamped || clamped)) e.node e.channel v (setSetRun (runAfterSet s') s')

/-- R70: the ALL-SAFE transaction starts. -/
def startAllSafe (s : State) : State :=
  s.setLine { s.line with allSafePending := false, hold := .allSafeSending }

/-- R68: the fairness exception holds. -/
def fairPoll (s : State) : Bool := Config.fairRun ≤ s.line.setRun && (firstDue s).isSome

/-- R67, R68: the choice of the scheduler on a free line. -/
def schedule (s : State) : State :=
  if s.line.allSafePending then startAllSafe s
  else if fairPoll s then startDue s
  else
    match s.line.controlQ with
    | a :: _ => startControl a s
    | [] => choosePass s.line.passQ s

/-! ## The commands of the field line -/

/-- LINE_FREE (R67): nothing holds the line and it has been idle for 3.5 character times. -/
def execLineFree (s : State) : Answer :=
  s.live fun s => if s.line.hold = .none then schedule s else s

/-- REQUEST_FRAME_SENT (R53, R71): the reply window opens, or the transaction is abandoned to a pending ALL-SAFE. -/
def execRequestFrameSent (s : State) : Answer :=
  s.live fun s =>
    match s.line.hold with
    | .exchange x =>
      if x.phase = .sending then
        if s.line.allSafePending then setHold .quiet (abandon x s)
        else setHold (.exchange { x with phase := .window }) s
      else s
    | _ => s

/-- FIELD_REPLY_RECEIVED (R53, R71): a frame received within a reply window; an abandoned transaction's frame is discarded and
the line is released. -/
def execFieldReplyReceived (frame : List Byte) (s : State) : Answer :=
  s.live fun s =>
    match s.line.hold with
    | .exchange x => if x.phase = .window then takeFrame x frame s else s
    | .quiet => setHold .none s
    | _ => s

/-- FIELD_FRAME_DISCARDED (R53): a frame outside any window changes nothing. -/
def execFieldFrameDiscarded (_frame : List Byte) (s : State) : Answer := .next s

/-- REPLY_WINDOW_CLOSED (R53, R55, R71): the window closes with no frame begun. -/
def execReplyWindowClosed (s : State) : Answer :=
  s.live fun s =>
    match s.line.hold with
    | .exchange x => if x.phase = .window then silentAttempt x s else s
    | .quiet => setHold .none s
    | _ => s

/-- SILENT_ATTEMPT_RESEND (R55): the same request frame is sent again. -/
def execSilentAttemptResend (s : State) : Answer :=
  s.live fun s =>
    match s.line.hold with
    | .exchange x => if x.phase = .resend then setHold (.exchange { x with phase := .sending }) s else s
    | _ => s

/-- HOLDOFF_DELAY_EXPIRY (R54): the same request frame is sent again. -/
def execHoldoffDelayExpiry (s : State) : Answer :=
  s.live fun s =>
    match s.line.hold with
    | .exchange x => if x.phase = .holdoff then setHold (.exchange { x with phase := .sending }) s else s
    | _ => s

/-- ALL_SAFE_FRAME_SENT (R70): the settling gap begins. -/
def execAllSafeFrameSent (s : State) : Answer :=
  s.live fun s => if s.line.hold = .allSafeSending then setHold .allSafeSettling s else s

/-- ALL_SAFE_COMPLETE (R70, R86): the settling gap ends and the Actuator Table is told. -/
def execAllSafeComplete (s : State) : Answer :=
  s.live fun s => if s.line.hold = .allSafeSettling then actuatorsConfirmed (setHold .none s) else s

/-- R63: the time since last start of an entry, one step later. -/
def scanStep (e : ScanEntry) : ScanEntry := { e with since := e.since.map fun t => satAdd Config.max16 t 1 }

/-- SCAN_CLOCK_STEP (R63). -/
def execScanClockStep (s : State) : Answer :=
  s.live fun s =>
    (s.setLine { s.line with scan := eachOf scanStep s.line.scan }).setTimers { s.timers with scan := Config.tenthMs }

/-- RETRY_TIMER_EXPIRY (R83): while the timer runs in REFUSED or FAILED. -/
def execRetryTimerExpiry (a : ActIx) (s : State) : Answer :=
  s.live fun s =>
    if (s.actuator a).retry.isSome then drainFailed a (retryExpired a s) else s

end Sys2Proof.Machine
end

