-- ==== Sys2Proof/Machine/LocalIO.lean ====
section
/-! DEFINITION. The Local I/O Unit (chapter 5): moving a pin from one mapping to another, debounce, counting, generator frames, and
the commands PIN_LEVEL_CHANGE, DEBOUNCE_TIMER_EXPIRY, COUNTER_EDGE and PWM_FRAME_START. -/

namespace Sys2Proof.Machine

/-! ## The pin map (R95, R97) -/

/-- R94: the functions that a pin's circuitry provides. -/
def pinProvides (p : PinIx) : PinFn → Bool
  | .unused => true
  | .input .. => true
  | .output .. => true
  | .counter .. => p.val ≤ 7
  | .cellPwm .. => 4 ≤ p.val && p.val ≤ 7
  | .analog => 8 ≤ p.val

/-- R95: the checks of a mapping that answer BAD_VALUE, ranges apart. -/
def pinFnBad (p : PinIx) (f : PinFn) : Bool :=
  !pinProvides p f || (match f with
    | .counter q _ c => c && isOdd q
    | _ => false)

/-- The counter that another pin than `p` is mapped to, with its cascade flag. -/
def otherCounters (s : State) (p : PinIx) : List (CounterIx × Bool) :=
  ((List.finRange 12).filter (· ≠ p)).filterMap fun q => counterFn (s.pin q).fn

/-- R95: the checks of a mapping that answer CONFLICT. -/
def pinFnConflict (s : State) (p : PinIx) : PinFn → Bool
  | .counter q _ c =>
    let others := otherCounters s p
    others.any (·.1 = q)
      || (isOdd q && others.contains (evenPartner q, true))
      || (c && others.any (·.1 = oddPartner q))
  | .cellPwm e _ =>
    (List.finRange 12).any fun q => q ≠ p && pwmMapped (s.pin q).fn e
  | _ => false

/-- R97: the pin after release of its old function and taking of its new one. An OUTPUT that stays OUTPUT keeps its drive value. -/
def remap (f : PinFn) (x : Pin) : Pin :=
  match f with
  | .input inv _ => { fn := f, level := x.level, debounced := activeLevel inv x.level }
  | .output _ => { fn := f, level := x.level, drive := isOutput x.fn && x.drive }
  | _ => { fn := f, level := x.level }

/-- R97: a counter assigned by a pin map load is cleared, both halves when the cascade flag is set. -/
def clearAssigned (f : PinFn) (s : State) : State :=
  match counterFn f with
  | none => s
  | some (q, c) =>
    let s := s.setCounter q 0
    if c then s.setCounter (oddPartner q) 0 else s

/-- R84, R97, R179: the Actuator Table is told when the pin ceases to be, or becomes, mapped OUTPUT. -/
def notifyMapping (p : PinIx) (was now : Bool) (s : State) : State :=
  if was = now then s
  else
    match (List.finRange 16).find? fun a => boundToPin p (s.actuator a) with
    | none => s
    | some a => drainFailed a (pinMappingChanged p was now s)

/-- R97: an accepted pin map load. -/
def takeMapping (p : PinIx) (f : PinFn) (s : State) : State :=
  let was := isOutput (s.pin p).fn
  notifyMapping p was (isOutput f) (clearAssigned f (s.setPin p (remap f (s.pin p))))

/-- R103, R105, R107: the level on a pin as the part has it: driven by an OUTPUT or by its cell's generator, else from outside.
`n` and `c` are the period and clock count in which the generator's frame stands. -/
def pinLevel (s : State) (n c : Nat) (p : PinIx) : Bool :=
  match (s.pin p).fn with
  | .output inv => drivenLevel inv (s.pin p).drive
  | .cellPwm e inv => xor (generatorOutput (s.cell e) n c) inv
  | _ => (s.pin p).level

/-! ## Debounce and counting (R98 to R100) -/

/-- R98: a pin takes a new level from outside; on an INPUT pin the debounce timer starts again, or the debounced state follows at
once when the debounce time is 0. -/
def levelChanged (level : Bool) (x : Pin) : Pin :=
  match x.fn with
  | .input inv 0 => { x with level := level, debounced := activeLevel inv level }
  | .input _ (d + 1) => { x with level := level, debounce := some (d + 1) }
  | _ => { x with level := level }

/-- R98: the debounce timer expires: the debounced state takes the activity of the level then present. -/
def debounceExpired (x : Pin) : Pin :=
  match x.fn with
  | .input inv _ =>
    if x.debounce.isSome then { x with debounced := activeLevel inv x.level, debounce := none } else x
  | _ => x

/-- R99: whether a change to `level` qualifies under a counting edge. -/
def qualifies (e : Edge) (level : Bool) : Bool :=
  match e with
  | .rising => level
  | .falling => !level
  | .both => true

/-- R99, R100: a qualifying edge: the counter rises by 1, with the carry into the high half of a cascaded pair. -/
def countPulse (q : CounterIx) (cascade : Bool) (s : State) : State :=
  let low := s.counter q + 1
  let s := s.setCounter q low
  if cascade && low = 0 then s.setCounter (oddPartner q) (s.counter (oddPartner q) + 1) else s

/-- PIN_LEVEL_CHANGE (R98): the level from outside changes, during a reset too. -/
def execPinLevelChange (p : PinIx) (level : Bool) (s : State) : Answer :=
  .next (s.setPin p (levelChanged level (s.pin p)))

/-- DEBOUNCE_TIMER_EXPIRY (R98). -/
def execDebounceTimerExpiry (p : PinIx) (s : State) : Answer :=
  s.live fun s => s.setPin p (debounceExpired (s.pin p))

/-- COUNTER_EDGE (R99, R100): the pin's level has changed to `level`; the edge is counted when it qualifies (log 25). -/
def execCounterEdge (p : PinIx) (level : Bool) (s : State) : Answer :=
  let s := s.setPin p { s.pin p with level := level }
  s.live fun s =>
    match (s.pin p).fn with
    | .counter q e c => if qualifies e level then countPulse q c s else s
    | _ => s

/-- PWM_FRAME_START (R104, R105, R125): a running generator latches the pending duty. -/
def execPwmFrameStart (e : CellIx) (s : State) : Answer :=
  s.live fun s =>
    let x := s.cell e
    if x.cfg.isSome then s.setCell e { x with latchedDuty := x.pendingDuty } else s

end Sys2Proof.Machine
end

