-- ==== Sys2Proof/Machine/Operands.lean ====
section
/-! DEFINITION. The operands that a request's body spells (R195, R196, R204, R205): table codes, the thirteen LOAD records field by field,
command codes and arguments. Offsets count from the record's first byte, its kind byte. -/

namespace Sys2Proof.Machine

/-! ## Tables -/

/-- R204: the code of a table. -/
def tableCode : Table → Nat
  | .point => 1 | .curve => 2 | .scan => 3 | .stream => 4 | .actuator => 5 | .cell => 6 | .chain => 7 | .tank => 8
  | .permit => 9 | .pinmap => 10 | .interlock => 11 | .classmap => 12 | .line => 13

/-- R205: the length of a table's LOAD record; that of CURVE follows its count byte. -/
def recordLength (t : Table) (r : List Byte) : Nat :=
  match t with
  | .point => 12
  | .curve => 1 + 5 * fieldAt r 0 1
  | .scan => 4
  | .stream => 21
  | .actuator => 6
  | .cell => 24
  | .chain => 13
  | .tank => 35
  | .permit => 27
  | .pinmap => 7
  | .interlock => 8
  | .classmap => 2
  | .line => 8

/-- R205: a record whose first byte is its kind byte: 0 is NONE, any other byte belongs to the content. -/
def kindBody {α : Type} (r : List Byte) (parse : Option α) : Body α :=
  if fieldAt r 0 1 = 0 then .unload else match parse with | some a => .content a | none => .bad

/-- R205: a record whose first byte is a content byte: 0 is NONE, 1 content, any other code is out of its list (log 21). -/
def contentBody {α : Type} (r : List Byte) (parse : Option α) : Body α :=
  if fieldAt r 0 1 = 0 then .unload
  else if fieldAt r 0 1 = 1 then match parse with | some a => .content a | none => .bad
  else .bad

/-- A number within a range, both ends inclusive. -/
def within (lo hi x : Nat) : Option Nat := if lo ≤ x ∧ x ≤ hi then some x else none

/-- R205: a flag, 0 or 1. -/
def flag? (x : Nat) : Option Bool := if x = 0 then some false else if x = 1 then some true else none

/-- R205: an index that may be NONE, coded 255. -/
def optIndex? (n x : Nat) : Option (Option (Fin n)) := if x = 255 then some none else (index? n x).map some

/-! ## POINT (R32, R33) -/

def pointKind? (x : Nat) : Option PointKind :=
  match x with
  | 1 => some .silver | 2 => some .flow | 3 => some .ph | 4 => some .level | 5 => some .volt | _ => none

/-- R32, R33: the source of a point record with the fields that belong to it. -/
def pointSource? (r : List Byte) : Option PointSource :=
  match fieldAt r 1 1 with
  | 1 => do
    let n ← node? (fieldAt r 2 1)
    let c ← index? 4 (fieldAt r 3 1)
    pure (.field n c)
  | 2 => do
    let q ← index? 6 (fieldAt r 4 1)
    let k ← within 1 65535 (fieldAt r 5 2)
    pure (.counter q k)
  | 3 => (index? 12 (fieldAt r 7 1)).map .switch
  | 4 => do
    let p ← index? 12 (fieldAt r 7 1)
    if 8 ≤ p.val then pure (.analog p) else none
  | _ => none

/-- R33: the combinations of a point record's fields that are refused. -/
def pointBad (c : PointCfg) : Bool :=
  match c.source with
  | .counter .. => c.kind ≠ .flow || c.curve.isSome || c.mirror
  | .switch .. => c.kind ≠ .level || c.curve.isSome || c.mirror
  | .field .. => false
  | .analog .. => false

def pointCfg? (r : List Byte) : Option PointCfg := do
  let kind ← pointKind? (fieldAt r 0 1)
  let source ← pointSource? r
  let curve ← optIndex? 8 (fieldAt r 8 1)
  let staleLimit ← within 1 600 (fieldAt r 9 2)
  let mirror ← flag? (fieldAt r 11 1)
  let c : PointCfg := { kind, source, curve, staleLimit, mirror }
  if pointBad c then none else pure c

def pointBody (r : List Byte) : Body PointCfg := kindBody r (pointCfg? r)

/-! ## CURVE (R45) -/

/-- R45, R205: `n` breakpoints from offset `off`. -/
def breakpoints (r : List Byte) : Nat → Nat → Curve
  | 0, _ => []
  | n + 1, off => (signed16 (fieldAt r off 2), fieldAt r (off + 2) 3) :: breakpoints r n (off + 5)

/-- R45: the x values are strictly increasing. -/
def risingX : Curve → Bool
  | [] => true
  | [_] => true
  | (x0, _) :: (x1, y1) :: rest => x0 < x1 && risingX ((x1, y1) :: rest)

def curveBody (r : List Byte) : Body Curve :=
  let n := fieldAt r 0 1
  let c := breakpoints r n 1
  if n = 0 then .unload else if 2 ≤ n && n ≤ 16 && risingX c then .content c else .bad

/-! ## SCAN (R62) -/

def scanBody (r : List Byte) : Body (PointIx × Nat) :=
  contentBody r do
    let p ← index? 32 (fieldAt r 1 1)
    let period ← within 1 36000 (fieldAt r 2 2)
    pure (p, period)

/-! ## STREAM (R1, R3) -/

def streamKind? (x : Nat) : Option StreamKind :=
  match x with
  | 1 => some .fixer | 2 => some .bleachfix | 3 => some .wash | 4 => some .tail | _ => none

/-- R205: a destination, its kind and its index. -/
def dest? (kind ix : Nat) : Option Dest :=
  match kind with
  | 1 => (index? 4 ix).map .cell
  | 2 => (index? 4 ix).map .chain
  | 3 => (index? 4 ix).map .tank
  | 4 => some .drain
  | 5 => some .ret
  | _ => none

/-- R205: a destination that may be absent. -/
def optDest? (kind ix : Nat) : Option (Option Dest) := if kind = 0 then some none else (dest? kind ix).map some

/-- R3: the combinations of a stream record's fields that are refused. -/
def streamBad (c : StreamCfg) : Bool :=
  ((c.kind = .fixer || c.kind = .bleachfix) && (c.primary = .drain || c.divert = some .drain))
    || (c.divert.isSome && c.divertPos = c.primaryPos)
    || c.divert = some c.primary

/-- R1: the divert position is ignored, and held as 0, when the divert destination is absent (log 30). -/
def divertPos? (divert : Option Dest) (x : Nat) : Option Nat := if divert.isSome then within 0 1000 x else some 0

def streamCfg? (r : List Byte) : Option StreamCfg := do
  let kind ← streamKind? (fieldAt r 0 1)
  let silverPoint ← index? 32 (fieldAt r 1 1)
  let flowPoint ← index? 32 (fieldAt r 2 1)
  let route ← index? 16 (fieldAt r 9 1)
  let primary ← dest? (fieldAt r 10 1) (fieldAt r 11 1)
  let primaryPos ← within 0 1000 (fieldAt r 12 2)
  let divert ← optDest? (fieldAt r 14 1) (fieldAt r 15 1)
  let divertPos ← divertPos? divert (fieldAt r 16 2)
  let minDivert ← within 10 3600 (fieldAt r 18 2)
  let shift ← within 0 7 (fieldAt r 20 1)
  let c : StreamCfg :=
    { kind, silverPoint, flowPoint, fallbackConc := fieldAt r 3 3, fallbackFlow := fieldAt r 6 3, route, primary,
      primaryPos, divert, divertPos, minDivert, shift }
  if streamBad c then none else pure c

def streamBody (r : List Byte) : Body StreamCfg := kindBody r (streamCfg? r)

/-! ## ACTUATOR (R75) -/

def binding? (r : List Byte) : Option Binding :=
  match fieldAt r 0 1 with
  | 1 => do
    let n ← node? (fieldAt r 1 1)
    let c ← index? 4 (fieldAt r 2 1)
    pure (.field n c)
  | 2 => (index? 12 (fieldAt r 3 1)).map .pin
  | _ => none

def actuatorBody (r : List Byte) : Body ActuatorCfg :=
  kindBody r do
    let binding ← binding? r
    let safe ← within 0 1000 (fieldAt r 4 2)
    pure { binding, safe }

/-! ## CELL (R108, R109) -/

/-- R108: the eight dividers. -/
def divider? (x : Nat) : Option Nat := if [1, 2, 4, 8, 16, 64, 256, 1024].contains x then some x else none

/-- R109: the combinations of a cell record's fields that are refused. -/
def cellBad (c : CellCfg) : Bool := !(c.iMin ≤ c.iMax && c.iMax ≤ c.iFs && 1 ≤ c.iFs && c.vHyst ≤ c.vLimit)

def cellCfg? (r : List Byte) : Option CellCfg := do
  let pwmPin ← index? 12 (fieldAt r 1 1)
  let _ ← within 4 7 pwmPin.val
  let voltPoint ← index? 32 (fieldAt r 2 1)
  let factor ← within 1 4095 (fieldAt r 3 2)
  let interval ← within 1 60 (fieldAt r 15 1)
  let divider ← divider? (fieldAt r 16 2)
  let c : CellCfg :=
    { pwmPin, voltPoint, factor, iMin := fieldAt r 5 2, iMax := fieldAt r 7 2, iFs := fieldAt r 9 2,
      vLimit := fieldAt r 11 2, vHyst := fieldAt r 13 2, interval, divider, threshold := fieldAt r 18 6 }
  if cellBad c then none else pure c

def cellBody (r : List Byte) : Body CellCfg := contentBody r (cellCfg? r)

/-! ## CHAIN (R131, R132) -/

def chainCfg? (r : List Byte) : Option ChainCfg := do
  let order ← index? 16 (fieldAt r 1 1)
  let aFirst ← within 0 1000 (fieldAt r 2 2)
  let bFirst ← within 0 1000 (fieldAt r 4 2)
  let tail ← optIndex? 32 (fieldAt r 6 1)
  let count ← within 1 255 (fieldAt r 10 1)
  let swap ← within 500 1000 (fieldAt r 11 2)
  if aFirst = bFirst then none
  else pure { order, aFirst, bFirst, tail, limit := fieldAt r 7 3, count, swap }

def chainBody (r : List Byte) : Body ChainCfg := contentBody r (chainCfg? r)

/-! ## TANK (R146, R147) -/

/-- R146: an actuator with its open and its closed value, from offset `off`; the two values differ (R147). -/
def valve? (r : List Byte) (off : Nat) : Option Valve := do
  let act ← index? 16 (fieldAt r off 1)
  let opened ← within 0 1000 (fieldAt r (off + 1) 2)
  let closed ← within 0 1000 (fieldAt r (off + 3) 2)
  if opened = closed then none else pure { act, opened, closed }

/-- R146, R205: a rework destination, coded as a destination (log 36). -/
def reworkDest? (kind ix : Nat) : Option ReworkDest :=
  match kind with
  | 2 => (index? 4 ix).map .chain
  | 5 => some .ret
  | _ => none

def tankCfg? (r : List Byte) : Option TankCfg := do
  let capacity ← within 1 4000000000 (fieldAt r 1 4)
  let levelPoint ← index? 32 (fieldAt r 5 1)
  let silverPoint ← index? 32 (fieldAt r 6 1)
  let phPoint ← index? 32 (fieldAt r 7 1)
  let outletPoint ← index? 32 (fieldAt r 8 1)
  let high ← within 1 1000 (fieldAt r 9 2)
  let low ← within 0 999 (fieldAt r 11 2)
  let inlet ← valve? r 13
  let drain ← valve? r 18
  let rework ← valve? r 23
  let reworkDest ← reworkDest? (fieldAt r 28 1) (fieldAt r 29 1)
  let dwell ← within 0 3600 (fieldAt r 30 2)
  let samples ← within 1 16 (fieldAt r 32 1)
  let timeout ← within 30 3600 (fieldAt r 33 2)
  if low < high then
    pure { capacity, levelPoint, silverPoint, phPoint, outletPoint, high, low, inlet, drain, rework, reworkDest, dwell,
           samples, timeout }
  else none

def tankBody (r : List Byte) : Body TankCfg := contentBody r (tankCfg? r)

/-! ## PERMIT (R166) -/

def permitCfg? (r : List Byte) : Option PermitCfg := do
  let cap ← within 1 281474976710655 (fieldAt r 1 6)
  let phLow ← within 0 1400 (fieldAt r 10 2)
  let phHigh ← within 0 1400 (fieldAt r 12 2)
  let dayStart ← within 0 86399 (fieldAt r 14 3)
  let silverPoint ← index? 32 (fieldAt r 17 1)
  let phPoint ← index? 32 (fieldAt r 18 1)
  let lowPermille ← within 0 1000 (fieldAt r 19 2)
  if phLow ≤ phHigh then
    pure { cap, concCap := fieldAt r 7 3, phLow, phHigh, dayStart, silverPoint, phPoint, lowPermille,
           start := fieldAt r 21 6 }
  else none

def permitBody (r : List Byte) : Body PermitCfg := contentBody r (permitCfg? r)

/-! ## PINMAP (R94) -/

/-- R94: the polarity, normal 1 or inverted 2, as "inverted". -/
def polarity? (x : Nat) : Option Bool := if x = 1 then some false else if x = 2 then some true else none

def edge? (x : Nat) : Option Edge :=
  match x with
  | 1 => some .rising | 2 => some .falling | 3 => some .both | _ => none

def pinFn? (r : List Byte) : Option PinFn :=
  match fieldAt r 0 1 with
  | 1 => some .unused
  | 2 => (polarity? (fieldAt r 3 1)).map fun inv => .input inv (fieldAt r 5 1)
  | 3 => (polarity? (fieldAt r 3 1)).map .output
  | 4 => do
    let q ← index? 6 (fieldAt r 1 1)
    let e ← edge? (fieldAt r 4 1)
    let c ← flag? (fieldAt r 6 1)
    pure (.counter q e c)
  | 5 => do
    let e ← index? 4 (fieldAt r 2 1)
    let inv ← polarity? (fieldAt r 3 1)
    pure (.cellPwm e inv)
  | 6 => some .analog
  | _ => none

/-- R94: a LOAD of kind NONE is a LOAD with function UNUSED. -/
def pinBody (r : List Byte) : Body PinFn := kindBody r (pinFn? r)

/-! ## INTERLOCK, CLASSMAP, LINE (R57, R88, R184) -/

def cond? (kind arg : Nat) : Option Cond :=
  match kind with
  | 1 => some .always
  | 2 => (index? 4 arg).map .tankNotReleasing
  | 3 => (index? 16 arg).map .streamActive
  | 4 => (index? 4 arg).map .cellRunning
  | 5 => (within 0 1000 arg).map .budgetAbove
  | _ => none

def interlockBody (r : List Byte) : Body Interlock :=
  contentBody r do
    let node ← node? (fieldAt r 1 1)
    let channel ← index? 4 (fieldAt r 2 1)
    let cond ← cond? (fieldAt r 3 1) (fieldAt r 4 2)
    let max ← within 0 1000 (fieldAt r 6 2)
    pure { node, channel, cond, max }

def classBody (r : List Byte) : Body Class := contentBody r (index? 4 (fieldAt r 1 1))

/-- R57: one of the three field bit rates. -/
def bitRate? (x : Nat) : Option Nat := if [19200, 57600, 115200].contains x then some x else none

/-- R57: a silence timeout, 0 or 5 to 600. -/
def silence? (x : Nat) : Option Nat := if x = 0 then some 0 else within 5 600 x

def lineBody (r : List Byte) : Body LineParams :=
  contentBody r do
    let bitRate ← bitRate? (fieldAt r 1 3)
    let window ← within 5 250 (fieldAt r 4 1)
    let holdoff ← within 10 100 (fieldAt r 5 1)
    let silence ← silence? (fieldAt r 6 2)
    pure { bitRate, window, holdoff, silence }

/-! ## Commands (R196) -/

/-- The code of a command, by its place in the table of R196 (R205, log 4). -/
def commandCode : Command → Nat
  | .startStream => 1 | .stopStream => 2 | .startCell => 3 | .harvestCell => 4 | .endHarvest => 5 | .clearCell => 6
  | .installCartridge => 7 | .removeCartridge => 8 | .startTank => 9 | .stopTank => 10 | .closeFill => 11
  | .setClock => 12 | .maskClass => 13 | .unmaskClass => 14 | .passSet => 15 | .allSafe => 16 | .resume => 17
  | .keepalive => 18 | .resetPart => 19

/-- Every command, in the order of the table of R196. -/
def allCommands : List Command :=
  [.startStream, .stopStream, .startCell, .harvestCell, .endHarvest, .clearCell, .installCartridge, .removeCartridge,
    .startTank, .stopTank, .closeFill, .setClock, .maskClass, .unmaskClass, .passSet, .allSafe, .resume, .keepalive,
    .resetPart]

/-- The length of a command's arguments, each field at the size of its range (R205, log 5). -/
def argLength : Command → Nat
  | .installCartridge => 8
  | .removeCartridge => 2
  | .setClock => 5
  | .passSet => 4
  | .allSafe => 0
  | .resume => 0
  | .keepalive => 0
  | .resetPart => 0
  | _ => 1

/-- The body spells the command with arguments of its length. -/
def spells (c : Command) (body : List Byte) : Bool :=
  fieldAt body 0 1 = commandCode c && body.length = argLength c + 1

/-- R135: a cartridge position, A 1 or B 2, as "A". -/
def position? (x : Nat) : Option Bool := if x = 1 then some true else if x = 2 then some false else none

end Sys2Proof.Machine
end

