-- ==== Sys2Proof/Machine/Requests.lean ====
section
/-! DEFINITION. How the Plant Port executes the request at the head of its queue (R193 to R196): taking it, checking table, index
and record length before the owning block sees it, and answering. -/

namespace Sys2Proof.Machine

/-- R194, R201: the Plant Port executes requests while it is not holding and RESET_PART has not ended execution. -/
def ready (s : State) : Bool := !s.port.holding && !s.port.ended

/-- R194: the request leaves the queue in the event that executes it. -/
def popRequest (s : State) : State := s.setPort { s.port with requests := s.port.requests.drop 1 }

/-- R194: execute the request at the head of the queue when the port executes and the request is of the form asked for; the
state unchanged otherwise (log 1). -/
def takeRequest (sel : Request → Bool) (f : Request → State → State) (s : State) : State :=
  match s.port.requests with
  | [] => s
  | r :: _ => if ready s && sel r then f r (popRequest s) else s

/-- R204: the table code that a LOAD or READ body begins with is `t`'s. -/
def namesTable (t : Table) (r : Request) : Bool := 1 ≤ r.body.length && fieldAt r.body 0 1 = tableCode t

/-- R204: a LOAD of table `t`. -/
def isLoad (t : Table) (r : Request) : Bool := r.kind = 1 && namesTable t r

/-- R204: a READ of table `t`. -/
def isRead (t : Table) (r : Request) : Bool := r.kind = 2 && namesTable t r

/-- R204: a COMMAND whose body spells `c` with arguments of the right length. -/
def isCommand (c : Command) (r : Request) : Bool := r.kind = 3 && spells c r.body

/-- The outcome of a refused request: its code, and nothing changed. -/
def refused (c : Code) (s : State) : Code × State := (c, s)

/-- The outcome of an accepted LOAD or command. -/
def accepted (s : State) : Code × State := (.ok, s)

/-- R195: the Plant Port's own checks of a LOAD: the index, then the length of the record; then the block's. -/
def loadChecked {n : Nat} (t : Table) (block : Fin n → List Byte → State → Code × State) (body : List Byte)
    (s : State) : Code × State :=
  let record := body.drop 2
  if body.length < 2 then refused .badValue s
  else
    match index? n (fieldAt body 1 1) with
    | none => refused .badIndex s
    | some i => if record.length = recordLength t record then block i record s else refused .badValue s

/-- R195: a LOAD of table `t` with `n` records, executed and answered. -/
def loadRequest {n : Nat} (t : Table) (block : Fin n → List Byte → State → Code × State) (s : State) : Answer :=
  s.live <| takeRequest (isLoad t) fun r s =>
    let o := loadChecked t block r.body s
    answer r.tag o.1 o.2

/-- R195, R205: a READ of table `t` with `n` records, executed and answered with the block's content. -/
def readRequest {n : Nat} (t : Table) (content : State → Fin n → List Byte) (s : State) : Answer :=
  s.live <| takeRequest (isRead t) fun r s =>
    if r.body.length < 2 then answer r.tag .badValue s
    else
      match index? n (fieldAt r.body 1 1) with
      | none => answer r.tag .badIndex s
      | some i => if r.body.length = 2 then answerWith r.tag .ok (content s i) s else answer r.tag .badValue s

/-- R196: a command, executed and answered. Arguments stand in the body from offset 1. -/
def commandRequest (c : Command) (run : List Byte → State → Code × State) (s : State) : Answer :=
  s.live <| takeRequest (isCommand c) fun r s =>
    let o := run r.body s
    answer r.tag o.1 o.2

/-- R196: a command whose first argument is an index of `n`: BAD_INDEX before the object's own checks. -/
def onIndex {n : Nat} (f : Fin n → State → Code × State) (body : List Byte) (s : State) : Code × State :=
  match index? n (fieldAt body 1 1) with
  | none => refused .badIndex s
  | some i => f i s

/-- R192, R204: the request is of a kind other than LOAD, READ and COMMAND. -/
def isOtherKind (r : Request) : Bool := r.kind ≠ 1 && r.kind ≠ 2 && r.kind ≠ 3

/-- R195: a LOAD or READ whose table code is none of the thirteen. -/
def isBadTable (r : Request) : Bool :=
  (r.kind = 1 || r.kind = 2) && !(1 ≤ r.body.length && 1 ≤ fieldAt r.body 0 1 && fieldAt r.body 0 1 ≤ 13)

/-- R196: a COMMAND that spells no command: an unknown code, or arguments of the wrong number or length. -/
def isUnknownCommand (r : Request) : Bool := r.kind = 3 && allCommands.all fun c => !spells c r.body

/-- OTHER_KIND_REQUEST (R192). -/
def execOtherKindRequest (s : State) : Answer :=
  s.live <| takeRequest isOtherKind fun r s => answer r.tag .badValue s

/-- BAD_TABLE_REQUEST (R195). -/
def execBadTableRequest (s : State) : Answer :=
  s.live <| takeRequest isBadTable fun r s => answer r.tag .badTable s

/-- UNKNOWN_COMMAND_CODE (R196). -/
def execUnknownCommandCode (s : State) : Answer :=
  s.live <| takeRequest isUnknownCommand fun r s => answer r.tag .badValue s

end Sys2Proof.Machine
end

