-- ==== Sys2Proof/Machine/Streams.lean ====
section
/-! DEFINITION. The Stream Accounting Engine (chapter 1): the seven parts of the accounting step and ACCOUNT_TIMER_EXPIRY. -/

namespace Sys2Proof.Machine

/-- R11, R12: the figure taken from a point, or the fallback figure, and whether the fallback was used. -/
def measured (p : Point) (fallback : Nat) : Nat × Bool :=
  match qualityOf p with
  | .good => (p.value, false)
  | .limited => (p.value, false)
  | .stale => (p.value, false)
  | .none => (fallback, true)
  | .failed => (fallback, true)

/-- R13: the sum `n × k + volume residue` whose quotient by 100 is the step's volume. -/
def pulseSum (x : Stream) (n k : Nat) : Nat := n * k + x.volResidue

/-- R12, R13: the volume of a step with its effects on the stream and on a counter point, and whether the fallback was used. -/
def streamVolume (i : StreamIx) (c : StreamCfg) (s : State) : State × Nat × Bool :=
  let x := s.stream i
  match counterSource (s.point c.flowPoint) with
  | none =>
    let v := measured (s.point c.flowPoint) c.fallbackFlow
    (s, min v.1 Config.max24, v.2)
  | some (q, k) =>
    if counterMapped s q then
      let n := pulsesSince s q x.snapshot
      let sum := pulseSum x n k
      let s' := s.setStream i { x with volResidue := sum % 100, snapshot := counterValue s q }
      (takeCounter c.flowPoint n k s', min (sum / 100) Config.max24, false)
    else
      (failPoint c.flowPoint .unmapped (s.setStream i { x with snapshot := 0 }), c.fallbackFlow, true)

/-- R17: the quotient by which a rate estimate moves toward its input. -/
def rateMove (d : Int) (shift : Nat) : Int :=
  let q := d.tdiv (2 ^ shift)
  if d ≠ 0 ∧ q = 0 then (if 0 < d then 1 else -1) else q

/-- R17: the rate estimate after a step with mass increment `dm`. -/
def nextRate (rate dm shift : Nat) : Nat :=
  (rate + rateMove ((min dm Config.max24 : Nat) - (rate : Int)) shift).toNat

/-- R15: the sum `C × V + mass residue` whose quotient by 1000 is the mass increment. -/
def massSum (x : Stream) (conc v : Nat) : Nat := conc * v + x.massResidue

/-- R14 to R17: the stream's own account after a step of concentration `conc` and volume `v`. -/
def accountStep (c : StreamCfg) (conc v : Nat) (fallbackUsed : Bool) (x : Stream) : Stream :=
  let sum := massSum x conc v
  let dm := sum / 1000
  { x with
    mass := add48 x.mass dm
    volume := add48 x.volume v
    massResidue := sum % 1000
    rate := nextRate x.rate dm c.shift
    estimated := if fallbackUsed then satAdd Config.max32 x.estimated 1 else x.estimated
    saturated := x.saturated || decide (Config.max48 < x.mass + dm) || decide (Config.max48 < x.volume + v)
    lastMass := dm
    lastVol := v }

/-- R18: the credited destination, from the route actuator's confirmed value. -/
def creditedBy (c : StreamCfg) (confirmed : Option Nat) : Credited :=
  match confirmed with
  | none => .unrouted
  | some v =>
    if v = c.primaryPos then .primary
    else if v = c.divertPos ∧ c.divert.isSome then .divert
    else .unrouted

/-- R19, R20: deliver a credit to the block that owns the destination. -/
def creditDest (d : Dest) (m v : Nat) (s : State) : State :=
  match d with
  | .cell e => s.setCell e { s.cell e with inflow := add48 (s.cell e).inflow m }
  | .chain k => creditChain k m v s
  | .tank t => creditTank t m v s
  | .drain => deliverDrain m s
  | .ret => creditReturn m v s

/-- R18 to R21: the credit part of a step. -/
def creditStep (i : StreamIx) (c : StreamCfg) (s : State) : State :=
  let cr := creditedBy c (s.actuator c.route).confirmed
  let s := s.setStream i { s.stream i with credited := cr }
  let m := (s.stream i).lastMass
  let v := (s.stream i).lastVol
  match cr with
  | .primary => creditDest c.primary m v s
  | .divert => match c.divert with
    | some d => creditDest d m v s
    | none => s
  | .unrouted => creditUnrouted m v s
  | .none => s

/-- R24: the time in DIVERTED at the routing part of a step. -/
def nextDivertedTime (x : Stream) : Nat := satAdd 3600 x.divertedTime 1

/-- R23 to R25: the state and the time in DIVERTED that routing settles, from what the two destinations accept. -/
def settleRoute (c : StreamCfg) (primary divert : Bool) (x : Stream) : StreamState × Nat :=
  match x.state with
  | .offline => (.offline, x.divertedTime)
  | .active =>
    if primary then (.active, x.divertedTime) else if divert then (.diverted, 0) else (.fault, x.divertedTime)
  | .diverted =>
    let t := nextDivertedTime x
    if primary && c.minDivert ≤ t then (.active, 0)
    else if divert then (.diverted, t)
    else if primary then (.active, 0)
    else (.fault, 0)
  | .fault =>
    if primary then (.active, x.divertedTime) else if divert then (.diverted, 0) else (.fault, x.divertedTime)

/-- R27: the alert of a change of state made by routing. -/
def routeAlert (i : StreamIx) (c : StreamCfg) (old new : StreamState) (s : State) : State :=
  if old = new then s
  else
    match new with
    | .diverted =>
      raiseAlert .streamDiverted (.stream i) ((c.divert.map destFigures).getD [0, 0]) s
    | .active => raiseAlert .streamRestored (.stream i) (destFigures c.primary) s
    | .fault => raiseAlert .streamFault (.stream i) [streamStateCode old] s
    | .offline => s

/-- R26: request the wanted position when it differs from the route actuator's desired value. -/
def routeRequest (c : StreamCfg) (st : StreamState) (s : State) : State :=
  match st with
  | .active =>
    if (s.actuator c.route).desired = c.primaryPos then s else ownerRequest c.route c.primaryPos s
  | .diverted =>
    if (s.actuator c.route).desired = c.divertPos then s else ownerRequest c.route c.divertPos s
  | .fault => s
  | .offline => s

/-- R22 to R27: the routing part of a step. -/
def routeStep (i : StreamIx) (c : StreamCfg) (s : State) : State :=
  let x := s.stream i
  let r := settleRoute c (accepts s c.primary) (c.divert.any (accepts s)) x
  let s := s.setStream i { x with state := r.1, divertedTime := r.2 }
  routeRequest c r.1 (routeAlert i c x.state r.1 s)

/-- R10 to R27: the accounting step of one stream. -/
def stepStream (i : StreamIx) (s : State) : State :=
  match (s.stream i).cfg with
  | none => s
  | some c =>
    if (s.stream i).state = .offline then s
    else
      let conc := measured (s.point c.silverPoint) c.fallbackConc
      match streamVolume i c s with
      | (s, v, fallbackUsed) =>
        let s := s.setStream i (accountStep c conc.1 v (conc.2 || fallbackUsed) (s.stream i))
        routeStep i c (creditStep i c s)

/-- R10: the streams in index order, each step complete before the next. -/
def stepStreams (s : State) : State := (List.finRange 16).foldl (fun s i => stepStream i s) s

/-- ACCOUNT_TIMER_EXPIRY (R10). -/
def execAccountTimerExpiry (s : State) : Answer :=
  s.live fun s => stepStreams (s.setTimers { s.timers with account := Config.secondMs })

end Sys2Proof.Machine
end

