-- ==== Sys2Proof/Machine/Loads.lean ====
section
/-! DEFINITION. The thirteen LOADs. Each block's own checks stand in the order BUSY, BAD_VALUE, CONFLICT (SCAN's by log 39), and a refused
load changes nothing. -/

namespace Sys2Proof.Machine

/-! ## POINT and CURVE (R32 to R36, R40, R45) -/

/-- R34, R40: a fresh point; a FIELD point on a LOST node becomes FAILED at once. -/
def installPoint (p : PointIx) (c : PointCfg) (s : State) : State :=
  let s := s.setPoint p { cfg := some c }
  match c.source with
  | .field n _ => if (s.node n).state = .lost then failPoint p .nodeLost s else s
  | .counter .. => s
  | .switch _ => s
  | .analog _ => s

def loadPointRecord (p : PointIx) (r : List Byte) (s : State) : Code × State :=
  if pointInService s p then refused .busy s
  else
    match pointBody r with
    | .bad => refused .badValue s
    | .unload => accepted (s.setPoint p {})
    | .content c => accepted (installPoint p c s)

/-- LOAD_POINT (R32, R33, R35, R36). -/
def execLoadPoint (s : State) : Answer := loadRequest .point loadPointRecord s

def loadCurveRecord (i : CurveIx) (r : List Byte) (s : State) : Code × State :=
  if curveInService s i then refused .busy s
  else
    match curveBody r with
    | .bad => refused .badValue s
    | .unload => accepted (s.setCurve i [])
    | .content c => accepted (s.setCurve i c)

/-- LOAD_CURVE (R45). -/
def execLoadCurve (s : State) : Answer := loadRequest .curve loadCurveRecord s

/-! ## SCAN (R62, R64) -/

/-- R64: the poll of a rewritten entry that is in flight leaves the entry's new runtime fields alone. -/
def markRewritten (i : ScanIx) (s : State) : State :=
  match s.line.hold with
  | .exchange x =>
    match x.job with
    | .poll j p _ => if i = j then setHold (.exchange { x with job := .poll j p true }) s else s
    | .control .. => s
    | .pass .. => s
  | _ => s

/-- R62: the entry takes a new content, or is emptied, with its runtime fields at their load values. -/
def writeScan (i : ScanIx) (slot : Option (PointIx × Nat)) (s : State) : State :=
  markRewritten i (s.setScanEntry i { slot := slot })

/-- R62: another entry names the point. -/
def scannedElsewhere (s : State) (i : ScanIx) (p : PointIx) : Bool :=
  (List.finRange 48).any fun j => j ≠ i && (s.scanEntry j).slot.any (·.1 = p)

/-- R62. Log 39, the model's choice: an entry that fails both checks (its point is no longer a loaded FIELD point, and another entry names
it) is BAD_VALUE. -/
def loadScanRecord (i : ScanIx) (r : List Byte) (s : State) : Code × State :=
  match scanBody r with
  | .bad => refused .badValue s
  | .unload => accepted (writeScan i none s)
  | .content c =>
    if (fieldSource (s.point c.1)).isNone then refused .badValue s
    else if scannedElsewhere s i c.1 then refused .conflict s
    else accepted (writeScan i (some c) s)

/-- LOAD_SCAN (R62, R64). -/
def execLoadScan (s : State) : Answer := loadRequest .scan loadScanRecord s

/-! ## STREAM (R1 to R5) -/

/-- R3: a named point is loaded and of the wrong kind. -/
def streamPointsWrong (s : State) (c : StreamCfg) : Bool :=
  wrongKind .silver (s.point c.silverPoint) || wrongKind .flow (s.point c.flowPoint)

/-- R4: one of the two claims is taken by another record. -/
def streamConflict (s : State) (i : StreamIx) (c : StreamCfg) : Bool :=
  ownedByOther s c.route (.stream i) || counterTaken s c.flowPoint (.stream i)

def loadStreamRecord (i : StreamIx) (r : List Byte) (s : State) : Code × State :=
  if (s.stream i).state ≠ .offline then refused .busy s
  else
    match streamBody r with
    | .bad => refused .badValue s
    | .unload => accepted (if (s.stream i).cfg.isSome then s.setStream i {} else s)
    | .content c =>
      if streamPointsWrong s c then refused .badValue s
      else if streamConflict s i c then refused .conflict s
      else accepted (s.setStream i { cfg := some c })

/-- LOAD_STREAM (R1 to R5). -/
def execLoadStream (s : State) : Answer := loadRequest .stream loadStreamRecord s

/-! ## ACTUATOR and INTERLOCK (R75, R76, R88) -/

def loadActuatorRecord (a : ActIx) (r : List Byte) (s : State) : Code × State :=
  if ownerInService s a then refused .busy s
  else
    match actuatorBody r with
    | .bad => refused .badValue s
    | .unload => accepted (if (s.actuator a).cfg.isSome then unloadActuator a s else s)
    | .content c => if bindingTaken s a c.binding then refused .conflict s else accepted (installActuator a c s)

/-- LOAD_ACTUATOR (R75, R76). -/
def execLoadActuator (s : State) : Answer := loadRequest .actuator loadActuatorRecord s

def loadInterlockRecord (i : InterlockIx) (r : List Byte) (s : State) : Code × State :=
  match interlockBody r with
  | .bad => refused .badValue s
  | .unload => accepted (s.setInterlock i none)
  | .content c => accepted (s.setInterlock i (some c))

/-- LOAD_INTERLOCK (R88). -/
def execLoadInterlock (s : State) : Answer := loadRequest .interlock loadInterlockRecord s

/-! ## CELL (R108 to R110) -/

def loadCellRecord (e : CellIx) (r : List Byte) (s : State) : Code × State :=
  if (s.cell e).state ≠ .idle then refused .busy s
  else
    match cellBody r with
    | .bad => refused .badValue s
    | .unload => accepted (if (s.cell e).cfg.isSome then s.setCell e {} else s)
    | .content c =>
      if wrongKind .volt (s.point c.voltPoint) then refused .badValue s
      else accepted (s.setCell e { cfg := some c })

/-- LOAD_CELL (R108, R109): the generator of a loaded cell starts again with pending and latched duty 0 (R104). -/
def execLoadCell (s : State) : Answer := loadRequest .cell loadCellRecord s

/-! ## CHAIN (R131 to R133) -/

/-- R132: the tail point is present, loaded and not of kind SILVER. -/
def tailWrong (s : State) (c : ChainCfg) : Bool := c.tail.any fun p => wrongKind .silver (s.point p)

def loadChainRecord (k : ChainIx) (r : List Byte) (s : State) : Code × State :=
  if hasLead (s.chain k) then refused .busy s
  else
    match chainBody r with
    | .bad => refused .badValue s
    | .unload => accepted (if (s.chain k).cfg.isSome then s.setChain k {} else s)
    | .content c =>
      if tailWrong s c then refused .badValue s
      else if ownedByOther s c.order (.chain k) then refused .conflict s
      else accepted (s.setChain k { cfg := some c, metering := some Config.secondMs })

/-- LOAD_CHAIN (R131, R132). -/
def execLoadChain (s : State) : Answer := loadRequest .chain loadChainRecord s

/-! ## TANK (R146 to R148) -/

/-- R147, R151: the drain actuator is loaded and its safe value equals the drain open value. -/
def drainSafeOpen (s : State) (c : TankCfg) : Bool := (s.actuator c.drain.act).cfg.any (·.safe = c.drain.opened)

/-- R147: a named point is loaded and not of the kind the table requires. -/
def tankPointsWrong (s : State) (c : TankCfg) : Bool :=
  wrongKind .level (s.point c.levelPoint) || wrongKind .silver (s.point c.silverPoint)
    || wrongKind .ph (s.point c.phPoint) || wrongKind .flow (s.point c.outletPoint)

/-- R77: two of the tank's own roles name the same actuator. -/
def rolesClash (c : TankCfg) : Bool :=
  c.inlet.act = c.drain.act || c.inlet.act = c.rework.act || c.drain.act = c.rework.act

/-- R77, R147: a claim of the tank is taken. -/
def tankConflict (s : State) (t : TankIx) (c : TankCfg) : Bool :=
  rolesClash c || ownedByOther s c.inlet.act (.tank t) || ownedByOther s c.drain.act (.tank t)
    || ownedByOther s c.rework.act (.tank t) || counterTaken s c.outletPoint (.tank t)

def loadTankRecord (t : TankIx) (r : List Byte) (s : State) : Code × State :=
  if (s.tank t).state ≠ .idle then refused .busy s
  else
    match tankBody r with
    | .bad => refused .badValue s
    | .unload => accepted (if (s.tank t).cfg.isSome then s.setTank t {} else s)
    | .content c =>
      if tankPointsWrong s c || drainSafeOpen s c then refused .badValue s
      else if tankConflict s t c then refused .conflict s
      else accepted (s.setTank t { cfg := some c, metering := some Config.secondMs })

/-- LOAD_TANK (R146, R147). -/
def execLoadTank (s : State) : Answer := loadRequest .tank loadTankRecord s

/-! ## PERMIT (R166, R167) -/

/-- R166: an effluent point is loaded and not of its kind. -/
def permitPointsWrong (s : State) (c : PermitCfg) : Bool :=
  wrongKind .silver (s.point c.silverPoint) || wrongKind .ph (s.point c.phPoint)

/-- R167: the runtime fields at an accepted load, before the comparisons of R171. -/
def takePermit (c : PermitCfg) (d : Discharge) : Discharge :=
  { d with
    permit := some c
    permitDay := dayOf (some c) d.clock
    consumed := c.start
    released := if d.permit.isSome then d.released else 0
    peak := if d.permit.isSome then d.peak else 0
    lowAlerted := false
    exhaustedAlerted := false }

/-- R166: an unload leaves the consumed mass, the batches released and the peak as they stand; the permit day becomes none. -/
def dropPermit (d : Discharge) : Discharge := { d with permit := none, permitDay := none }

def loadPermitRecord (_ : Fin 1) (r : List Byte) (s : State) : Code × State :=
  if (releasingTank s).isSome then refused .busy s
  else
    match permitBody r with
    | .bad => refused .badValue s
    | .unload => accepted (s.setDisch (dropPermit s.disch))
    | .content c =>
      if permitPointsWrong s c then refused .badValue s
      else accepted (budgetAlerts (s.setDisch (takePermit c s.disch)))

/-- LOAD_PERMIT (R166, R167). -/
def execLoadPermit (s : State) : Answer := loadRequest .permit loadPermitRecord s

/-! ## PINMAP (R94 to R97) -/

/-- R95: a mapping that passed BUSY: its remaining checks, then the move from the old mapping to the new one (R97). -/
def loadPinFn (p : PinIx) (f : PinFn) (s : State) : Code × State :=
  if pinFnBad p f then refused .badValue s
  else if pinFnConflict s p f then refused .conflict s
  else accepted (takeMapping p f s)

def loadPinRecord (p : PinIx) (r : List Byte) (s : State) : Code × State :=
  if pinInService s p then refused .busy s
  else
    match pinBody r with
    | .bad => refused .badValue s
    | .unload => loadPinFn p .unused s
    | .content f => loadPinFn p f s

/-- LOAD_PINMAP (R94 to R97, R84). -/
def execLoadPinmap (s : State) : Answer := loadRequest .pinmap loadPinRecord s

/-! ## CLASSMAP and LINE (R57, R184, R197) -/

/-- R184: set the class of a kind. -/
def setClass (k : KindIx) (c : Class) (s : State) : State :=
  s.setReports { s.reports with classMap := s.reports.classMap.set k c }

def loadClassRecord (k : KindIx) (r : List Byte) (s : State) : Code × State :=
  match classBody r with
  | .bad => refused .badValue s
  | .unload => accepted (setClass k defaultClasses[k] s)
  | .content c => accepted (setClass k c s)

/-- LOAD_CLASSMAP (R184). -/
def execLoadClassmap (s : State) : Answer := loadRequest .classmap loadClassRecord s

/-- R197: the silence timer after a start at timeout `t` seconds; 0 is off. -/
def silenceFor (t : Nat) : Option Nat := if t = 0 then none else some (t * Config.secondMs)

/-- R57, R197: the line parameters are replaced, and the silence timer is restarted or stopped. -/
def takeLine (c : LineParams) (s : State) : State :=
  let s := s.setLine { s.line with params := c }
  s.setPort { s.port with silence := silenceFor c.silence }

def loadLineRecord (_ : Fin 1) (r : List Byte) (s : State) : Code × State :=
  match lineBody r with
  | .bad => refused .badValue s
  | .unload => refused .badValue s
  | .content c => accepted (takeLine c s)

/-- LOAD_LINE (R57, R197). -/
def execLoadLine (s : State) : Answer := loadRequest .line loadLineRecord s

end Sys2Proof.Machine
end

