-- ==== Sys2Proof/Machine/Reads.lean ====
section
/-! DEFINITION. The thirteen READs: the content of each table in the coding of R205. A content begins with one byte saying whether the
record is loaded; loaded fields follow as in the load record, 0 in an unloaded one; then the further items of the table's READ
rule. An item given only for some records is 0 at its full size where it does not apply (log 14). -/

namespace Sys2Proof.Machine

/-- The bytes of what a record holds when it is loaded, or zeros of that size. -/
def orZeros {α : Type} (n : Nat) (x : Option α) (f : α → List Byte) : List Byte :=
  match x with
  | some a => f a
  | none => List.replicate n 0

/-- R205: an index that may be NONE. -/
def optIndexByte {n : Nat} (x : Option (Fin n)) : List Byte := optBytes 1 (x.map (·.val))

/-- The remaining time of a timer in whole seconds rounded up, coded in `n` bytes; all ones when it is stopped. -/
def timerBytes (n : Nat) (t : Option Nat) : List Byte := optBytes n (t.map secondsUp)

/-- R205: a list preceded by one byte giving its number of entries. -/
def listBytes {α : Type} (xs : List α) (f : α → List Byte) : List Byte := be 1 xs.length ++ xs.flatMap f

/-- R205: a destination, its kind and its index. -/
def destBytes (d : Dest) : List Byte := (destFigures d).flatMap (be 1)

/-- R205: a destination that may be absent. -/
def optDestBytes (d : Option Dest) : List Byte := match d with | some d => destBytes d | none => [0, 0]

/-! ## POINT and CURVE (R49) -/

/-- R32: the source fields, those of another source type 0. -/
def sourceBytes : PointSource → List Byte
  | .field n c => be 1 1 ++ be 1 (nodeNumber n) ++ be 1 c.val ++ be 1 0 ++ be 2 0 ++ be 1 0
  | .counter q k => be 1 2 ++ be 1 0 ++ be 1 0 ++ be 1 q.val ++ be 2 k ++ be 1 0
  | .switch p => be 1 3 ++ be 1 0 ++ be 1 0 ++ be 1 0 ++ be 2 0 ++ be 1 p.val
  | .analog p => be 1 4 ++ be 1 0 ++ be 1 0 ++ be 1 0 ++ be 2 0 ++ be 1 p.val

def pointCfgBytes (c : PointCfg) : List Byte :=
  be 1 (pointKindCode c.kind) ++ sourceBytes c.source ++ optIndexByte c.curve ++ be 2 c.staleLimit ++ flagByte c.mirror

/-- R34, R205: the last raw at the size its source's range needs (log 28). -/
def lastRawBytes (c : PointCfg) (raw : Int) : List Byte :=
  match c.source with
  | .field .. => rawBytes raw
  | .analog _ => rawBytes raw
  | .switch _ => be 1 raw.toNat
  | .counter .. => be 4 raw.toNat

def pointRunBytes (x : Point) (c : PointCfg) : List Byte :=
  be 3 x.value ++ be 1 (qualityCode x.quality) ++ be 2 x.age ++ lastRawBytes c x.lastRaw

/-- R49: a point. Log 28, the model's choice: an unloaded point has no source, and its last raw takes four zero bytes, so that its content is
the flag and 22 zero bytes. -/
def readPointContent (s : State) (p : PointIx) : List Byte :=
  let x := s.point p
  flagByte x.cfg.isSome ++ orZeros 22 x.cfg fun c => pointCfgBytes c ++ pointRunBytes x c

/-- READ_POINT (R49). -/
def execReadPoint (s : State) : Answer := readRequest .point readPointContent s

def readCurveContent (s : State) (i : CurveIx) : List Byte :=
  let c := s.curve i
  flagByte (!c.isEmpty) ++ listBytes c fun b => rawBytes b.1 ++ be 3 b.2

/-- READ_CURVE (R49). -/
def execReadCurve (s : State) : Answer := readRequest .curve readCurveContent s

/-! ## SCAN (R62) -/

def readScanContent (s : State) (i : ScanIx) : List Byte :=
  let e := s.scanEntry i
  flagByte e.slot.isSome ++ orZeros 3 e.slot (fun c => be 1 c.1.val ++ be 2 c.2)
    ++ optBytes 3 e.since ++ flagByte e.owed ++ be 1 (scanOutcomeCode e.last)

/-- READ_SCAN (R62). -/
def execReadScan (s : State) : Answer := readRequest .scan readScanContent s

/-! ## STREAM (R30) -/

def streamCfgBytes (c : StreamCfg) : List Byte :=
  be 1 (streamKindCode c.kind) ++ be 1 c.silverPoint.val ++ be 1 c.flowPoint.val ++ be 3 c.fallbackConc
    ++ be 3 c.fallbackFlow ++ be 1 c.route.val ++ destBytes c.primary ++ be 2 c.primaryPos ++ optDestBytes c.divert
    ++ be 2 c.divertPos ++ be 2 c.minDivert ++ be 1 c.shift

/-- R2: the runtime fields of a stream, in the order of its table. The last mass increment takes five bytes (log 17). -/
def streamRunBytes (x : Stream) : List Byte :=
  be 1 (streamStateCode x.state) ++ be 6 x.mass ++ be 6 x.volume ++ be 2 x.massResidue ++ be 1 x.volResidue
    ++ be 4 x.snapshot ++ be 3 x.rate ++ be 1 (creditedCode x.credited) ++ be 2 x.divertedTime ++ be 4 x.estimated
    ++ flagByte x.saturated ++ be 5 x.lastMass ++ be 3 x.lastVol

def accountBytes (a : Account) : List Byte := be 6 a.mass ++ be 6 a.volume

def readStreamContent (s : State) (i : StreamIx) : List Byte :=
  let x := s.stream i
  flagByte x.cfg.isSome ++ orZeros 21 x.cfg streamCfgBytes ++ streamRunBytes x
    ++ accountBytes s.accounts.unrouted ++ accountBytes s.accounts.ret

/-- READ_STREAM (R30). -/
def execReadStream (s : State) : Answer := readRequest .stream readStreamContent s

/-! ## ACTUATOR and INTERLOCK (R93) -/

def bindingBytes : Binding → List Byte
  | .field n c => be 1 1 ++ be 1 (nodeNumber n) ++ be 1 c.val ++ be 1 0
  | .pin p => be 1 2 ++ be 1 0 ++ be 1 0 ++ be 1 p.val

/-- R93: the owner as kind and index: stream 1, tank 2, chain 3; none is kind 0 and index 255 (log 18). -/
def ownerBytes : Option Owner → List Byte
  | some (.stream i) => be 1 1 ++ be 1 i.val
  | some (.tank t) => be 1 2 ++ be 1 t.val
  | some (.chain k) => be 1 3 ++ be 1 k.val
  | none => be 1 0 ++ be 1 255

def actuatorRunBytes (x : Actuator) : List Byte :=
  be 2 x.desired ++ optBytes 2 x.confirmed ++ be 1 (actStateCode x.state) ++ be 1 (actReasonCode x.reason)
    ++ timerBytes 1 x.retry

def readActuatorContent (s : State) (a : ActIx) : List Byte :=
  let x := s.actuator a
  flagByte x.cfg.isSome ++ orZeros 15 x.cfg fun c =>
    bindingBytes c.binding ++ be 2 c.safe ++ actuatorRunBytes x ++ ownerBytes (ownersOf s a).head?

/-- READ_ACTUATOR (R93). -/
def execReadActuator (s : State) : Answer := readRequest .actuator readActuatorContent s

/-- R205: an interlock condition, its kind and its argument. -/
def condBytes : Cond → List Byte
  | .always => be 1 1 ++ be 2 0
  | .tankNotReleasing t => be 1 2 ++ be 2 t.val
  | .streamActive i => be 1 3 ++ be 2 i.val
  | .cellRunning e => be 1 4 ++ be 2 e.val
  | .budgetAbove p => be 1 5 ++ be 2 p

def interlockBytes (e : Interlock) : List Byte :=
  be 1 (nodeNumber e.node) ++ be 1 e.channel.val ++ condBytes e.cond ++ be 2 e.max

def readInterlockContent (s : State) (i : InterlockIx) : List Byte :=
  let e := s.interlock i
  flagByte e.isSome ++ orZeros 7 e interlockBytes ++ flagByte (e.any fun x => condHolds s x.cond)

/-- READ_INTERLOCK (R93). -/
def execReadInterlock (s : State) : Answer := readRequest .interlock readInterlockContent s

/-! ## CELL (R129) -/

def cellCfgBytes (c : CellCfg) : List Byte :=
  be 1 c.pwmPin.val ++ be 1 c.voltPoint.val ++ be 2 c.factor ++ be 2 c.iMin ++ be 2 c.iMax ++ be 2 c.iFs ++ be 2 c.vLimit
    ++ be 2 c.vHyst ++ be 1 c.interval ++ be 2 c.divider ++ be 6 c.threshold

/-- R110: the runtime fields of a cell, in the order of its table. -/
def cellRunBytes (x : Cell) : List Byte :=
  be 1 (cellStateCode x.state) ++ be 1 (cellFaultCode x.fault) ++ be 1 x.fold ++ be 1 x.high ++ be 1 x.miss
    ++ be 3 x.inflowRate ++ be 2 x.target ++ be 2 x.effective ++ be 2 x.pendingDuty ++ be 2 x.latchedDuty
    ++ timerBytes 1 x.regTimer ++ be 6 x.plated ++ be 2 x.platedResidue ++ be 6 x.inflow

def readCellContent (s : State) (e : CellIx) : List Byte :=
  let x := s.cell e
  flagByte x.cfg.isSome ++ orZeros 23 x.cfg cellCfgBytes ++ cellRunBytes x

/-- READ_CELL (R129). -/
def execReadCell (s : State) : Answer := readRequest .cell readCellContent s

/-! ## CHAIN (R144) -/

def chainCfgBytes (c : ChainCfg) : List Byte :=
  be 1 c.order.val ++ be 2 c.aFirst ++ be 2 c.bFirst ++ optIndexByte c.tail ++ be 3 c.limit ++ be 1 c.count ++ be 2 c.swap

def positionBytes (p : Position) : List Byte :=
  be 1 (posStateCode p.state) ++ be 6 p.capacity ++ be 6 p.loading ++ be 2 p.tailResidue

def chainRunBytes (x : Chain) : List Byte :=
  positionBytes x.posA ++ positionBytes x.posB ++ be 4 x.volume ++ be 1 x.run ++ be 6 x.unplaced ++ be 6 x.passed
    ++ be 2 x.passedResidue ++ flagByte x.metering.isSome

def readChainContent (s : State) (k : ChainIx) : List Byte :=
  let x := s.chain k
  flagByte x.cfg.isSome ++ orZeros 12 x.cfg chainCfgBytes ++ chainRunBytes x ++ flagByte (chainAccepts x)

/-- READ_CHAIN (R144). -/
def execReadChain (s : State) : Answer := readRequest .chain readChainContent s

/-! ## TANK (R165) -/

def valveBytes (v : Valve) : List Byte := be 1 v.act.val ++ be 2 v.opened ++ be 2 v.closed

def reworkDestBytes : ReworkDest → List Byte
  | .chain k => be 1 2 ++ be 1 k.val
  | .ret => be 1 5 ++ be 1 0

def tankCfgBytes (c : TankCfg) : List Byte :=
  be 4 c.capacity ++ be 1 c.levelPoint.val ++ be 1 c.silverPoint.val ++ be 1 c.phPoint.val ++ be 1 c.outletPoint.val
    ++ be 2 c.high ++ be 2 c.low ++ valveBytes c.inlet ++ valveBytes c.drain ++ valveBytes c.rework
    ++ reworkDestBytes c.reworkDest ++ be 2 c.dwell ++ be 1 c.samples ++ be 2 c.timeout

/-- R148: the runtime fields of a tank after its fill mass and fill volume, in the order of its table. -/
def tankRunBytes (x : Tank) : List Byte :=
  be 2 x.batchNo ++ be 1 x.silverSamples ++ be 1 x.phSamples ++ flagByte x.deferred ++ flagByte x.paused
    ++ be 4 x.outSnapshot ++ be 1 x.outVolResidue ++ be 2 x.outMassResidue ++ timerBytes 2 x.dwell ++ timerBytes 2 x.test
    ++ flagByte x.metering.isSome ++ flagByte x.batch.isSome ++ orZeros 34 x.batch batchBytes

/-- R165: of an unloaded tank the fill mass and the fill volume are returned as they stand. -/
def readTankContent (s : State) (t : TankIx) : List Byte :=
  let x := s.tank t
  flagByte x.cfg.isSome ++ orZeros 34 x.cfg tankCfgBytes ++ orZeros 1 x.cfg (fun _ => be 1 (tankStateCode x.state))
    ++ be 6 x.fillMass ++ be 6 x.fillVol ++ orZeros 53 x.cfg (fun _ => tankRunBytes x) ++ flagByte (tankAccepts s t)

/-- READ_TANK (R165). -/
def execReadTank (s : State) : Answer := readRequest .tank readTankContent s

/-! ## PERMIT (R181) -/

def permitCfgBytes (c : PermitCfg) : List Byte :=
  be 6 c.cap ++ be 3 c.concCap ++ be 2 c.phLow ++ be 2 c.phHigh ++ be 3 c.dayStart ++ be 1 c.silverPoint.val
    ++ be 1 c.phPoint.val ++ be 2 c.lowPermille ++ be 6 c.start

/-- R167: the runtime fields of the permit, in the order of its table. -/
def permitRunBytes (s : State) : List Byte :=
  let d := s.disch
  flagByte d.permit.isSome ++ optBytes 3 d.permitDay ++ be 6 d.consumed ++ be 6 (remainingBudget s) ++ be 2 d.released
    ++ be 3 d.peak ++ flagByte d.lowAlerted ++ flagByte d.exhaustedAlerted

/-- R181: a queued tank with its batch number and remaining estimate. -/
def queuedBytes (s : State) (t : TankIx) : List Byte :=
  be 1 t.val ++ be 2 (batchNumber (s.tank t)) ++ be 6 (remainingEstimate (s.tank t))

/-- The released mass of a tank's batch record; 0 without one. -/
def releasedMass (x : Tank) : Nat := match x.batch with | some b => b.released | none => 0

/-- R181: the RELEASING tank with its batch number and released mass, or none. -/
def releasingBytes (s : State) : List Byte :=
  match releasingTank s with
  | some t => be 1 t.val ++ be 2 (batchNumber (s.tank t)) ++ be 6 (releasedMass (s.tank t))
  | none => be 1 255 ++ be 2 0 ++ be 6 0

def readPermitContent (s : State) (_ : Fin 1) : List Byte :=
  flagByte s.disch.permit.isSome ++ orZeros 26 s.disch.permit permitCfgBytes ++ permitRunBytes s ++ clockBytes s.clock
    ++ flagByte (drainAccepts s) ++ be 1 (drainFailure s) ++ listBytes s.disch.queue (queuedBytes s) ++ releasingBytes s

/-- READ_PERMIT (R181). -/
def execReadPermit (s : State) : Answer := readRequest .permit readPermitContent s

/-! ## PINMAP (R107) -/

def polarityBytes (inverted : Bool) : List Byte := be 1 (if inverted then 2 else 1)

/-- R94: the fields of a pin map entry; those that do not belong to the function stand at their defaults. Log 30, the model's choice: the
counter and the cell, to which R94 gives no default, are 0 on a pin of another function. -/
def pinFnBytes : PinFn → List Byte
  | .unused => [1, 0, 0, 1, 1, 0, 0]
  | .input inv d => [2, 0, 0] ++ polarityBytes inv ++ [1] ++ be 1 d ++ [0]
  | .output inv => [3, 0, 0] ++ polarityBytes inv ++ [1, 0, 0]
  | .counter q e c => [4] ++ be 1 q.val ++ [0, 1] ++ be 1 (edgeCode e) ++ [0] ++ flagByte c
  | .cellPwm e inv => [5, 0] ++ be 1 e.val ++ polarityBytes inv ++ [1, 0, 0]
  | .analog => [6, 0, 0, 1, 1, 0, 0]

/-- R107: the live state of the pin's function, every item of another function 0: of INPUT the level, the debounced state and whether
the timer runs; of OUTPUT the drive value and the level driven; the counter's value; of CELL_PWM whether the generator runs and
its latched duty; the last sample. -/
def pinLiveBytes (s : State) (x : Pin) : List Byte :=
  match x.fn with
  | .unused => List.replicate 14 0
  | .input .. =>
    flagByte x.level ++ flagByte x.debounced ++ flagByte x.debounce.isSome ++ List.replicate 11 0
  | .output inv => List.replicate 3 0 ++ flagByte x.drive ++ flagByte (drivenLevel inv x.drive) ++ List.replicate 9 0
  | .counter q _ _ => List.replicate 5 0 ++ be 4 (counterValue s q) ++ List.replicate 5 0
  | .cellPwm e _ =>
    List.replicate 9 0 ++ flagByte (s.cell e).cfg.isSome ++ be 2 (s.cell e).latchedDuty ++ List.replicate 2 0
  | .analog => List.replicate 12 0 ++ be 2 x.sample.toNat

def readPinContent (s : State) (p : PinIx) : List Byte :=
  flagByte true ++ pinFnBytes (s.pin p).fn ++ pinLiveBytes s (s.pin p)
    ++ (List.finRange 6).flatMap fun q => be 2 (s.counter q).toNat

/-- READ_PINMAP (R107). -/
def execReadPinmap (s : State) : Answer := readRequest .pinmap readPinContent s

/-! ## CLASSMAP (R184) -/

/-- R184: the number of entries queued in a class. -/
def queuedIn (q : ReportQueue) (c : Class) : Nat := (q.entries.filter fun e => e.cls = c).length

/-- R184: how many of a class's entries are masked: all of them or none. -/
def maskedIn (q : ReportQueue) (c : Class) : Nat := if q.masks[c] then queuedIn q c else 0

def readClassContent (s : State) (k : KindIx) : List Byte :=
  flagByte true ++ be 1 s.reports.classMap[k].val ++ be 1 defaultClasses[k].val
    ++ s.reports.masks.toList.flatMap flagByte
    ++ (List.finRange 4).flatMap (fun c => be 1 (queuedIn s.reports c) ++ be 1 (maskedIn s.reports c))
    ++ flagByte s.reports.gap

/-- READ_CLASSMAP (R184). -/
def execReadClassmap (s : State) : Answer := readRequest .classmap readClassContent s

/-! ## LINE (R57) -/

def lineBytes (c : LineParams) : List Byte := be 3 c.bitRate ++ be 1 c.window ++ be 1 c.holdoff ++ be 2 c.silence

/-- R58: the reason of a node's last failed transaction. -/
def nodeReasonCode : Option FailReason → Nat
  | some r => failReasonCode r
  | none => 0

def nodeBytes (h : NodeHealth) : List Byte :=
  be 1 (nodeStateCode h.state) ++ be 1 h.count ++ be 1 (nodeReasonCode h.reason)

def readLineContent (s : State) (_ : Fin 1) : List Byte :=
  flagByte true ++ lineBytes s.line.params ++ s.line.nodes.toList.flatMap nodeBytes
    ++ listBytes s.line.controlQ (fun a => be 1 a.val) ++ be 1 s.line.passQ.length
    ++ flagByte s.line.allSafePending ++ flagByte (s.line.hold = .allSafeSending)
    ++ flagByte (s.line.hold = .allSafeSettling) ++ be 1 s.line.setRun

/-- READ_LINE (R57). -/
def execReadLine (s : State) : Answer := readRequest .line readLineContent s

end Sys2Proof.Machine
end

