-- ==== Sys2Proof/Machine/Commands.lean ====
section
/-! DEFINITION. The nineteen COMMANDs (R196). Each block's checks stand in the order its rule tries them, and a refused command
changes nothing. -/

namespace Sys2Proof.Machine

/-! ## Streams (R7, R8) -/

/-- R7: a point is not loaded or of the wrong kind, or the route actuator is not loaded. -/
def streamUnbound (s : State) (c : StreamCfg) : Bool :=
  !isKind .silver (s.point c.silverPoint) || !isKind .flow (s.point c.flowPoint) || (s.actuator c.route).cfg.isNone

/-- R7: the counter snapshot at start. -/
def startSnapshot (s : State) (c : StreamCfg) (old : Nat) : Nat :=
  match counterSource (s.point c.flowPoint) with
  | some (q, _) => if counterMapped s q then counterValue s q else 0
  | none => old

/-- R7: the stream becomes ACTIVE; its totals, residues, estimated seconds and saturated flag stand. -/
def activate (s : State) (c : StreamCfg) (x : Stream) : Stream :=
  { x with state := .active, divertedTime := 0, rate := 0, credited := .none, snapshot := startSnapshot s c x.snapshot }

def startStream (i : StreamIx) (s : State) : Code × State :=
  match (s.stream i).cfg with
  | none => refused .notLoaded s
  | some c =>
    if (s.stream i).state ≠ .offline then refused .busy s
    else if streamUnbound s c then refused .badBinding s
    else if counterTaken s c.flowPoint (.stream i) then refused .conflict s
    else accepted (s.setStream i (activate s c (s.stream i)))

/-- START_STREAM (R7). -/
def execStartStream (s : State) : Answer := commandRequest .startStream (onIndex startStream) s

/-- R8: the stream becomes OFFLINE; its totals, residues, estimated seconds, saturated flag and counter snapshot stand. -/
def deactivate (x : Stream) : Stream := { x with state := .offline, rate := 0, credited := .none, divertedTime := 0 }

def stopStream (i : StreamIx) (s : State) : Code × State :=
  match (s.stream i).cfg with
  | none => refused .notLoaded s
  | some _ => accepted (if (s.stream i).state = .offline then s else s.setStream i (deactivate (s.stream i)))

/-- STOP_STREAM (R8). -/
def execStopStream (s : State) : Answer := commandRequest .stopStream (onIndex stopStream) s

/-! ## Cells (R112 to R117) -/

/-- R114: the voltage point is not a loaded VOLT point, or the PWM pin is not mapped CELL_PWM on the cell. -/
def cellUnbound (s : State) (e : CellIx) (c : CellCfg) : Bool :=
  !isKind .volt (s.point c.voltPoint) || !pwmMapped (s.pin c.pwmPin).fn e

def startCellCommand (e : CellIx) (s : State) : Code × State :=
  match (s.cell e).cfg with
  | none => refused .notLoaded s
  | some c =>
    if (s.cell e).state ≠ .idle then refused .busy s
    else if s.port.safeHold then refused .held s
    else if cellUnbound s e c then refused .badBinding s
    else accepted (startCell e c s)

/-- START_CELL (R114). -/
def execStartCell (s : State) : Answer := commandRequest .startCell (onIndex startCellCommand) s

/-- R112: a command that takes a loaded cell from one state. -/
def fromState (st : CellState) (f : Cell → Cell) (e : CellIx) (s : State) : Code × State :=
  if (s.cell e).cfg.isNone then refused .notLoaded s
  else if (s.cell e).state ≠ st then refused .busy s
  else accepted (s.setCell e (f (s.cell e)))

/-- HARVEST_CELL (R113, R115). -/
def execHarvestCell (s : State) : Answer :=
  commandRequest .harvestCell (onIndex (fromState .run (leaveRun .harvest))) s

/-- R116: the plated estimate and residue become 0. -/
def endHarvest (x : Cell) : Cell := { x with state := .idle, plated := 0, platedResidue := 0 }

/-- END_HARVEST (R116). -/
def execEndHarvest (s : State) : Answer := commandRequest .endHarvest (onIndex (fromState .harvest endHarvest)) s

/-- R117: a FAULT cell becomes IDLE with everything else as it stands. -/
def clearCell (x : Cell) : Cell := { x with state := .idle }

/-- CLEAR_CELL (R117). -/
def execClearCell (s : State) : Answer := commandRequest .clearCell (onIndex (fromState .fault clearCell)) s

/-! ## Cartridges (R135, R136) -/

/-- R135: the order actuator is not loaded, or the tail point is present and not a loaded SILVER point. -/
def chainUnbound (s : State) (c : ChainCfg) : Bool :=
  (s.actuator c.order).cfg.isNone || c.tail.any fun p => !isKind .silver (s.point p)

/-- R135: a capacity within 1 to 2^48 − 1 µg. -/
def capacity? (body : List Byte) : Option Nat := within 1 Config.max48 (fieldAt body 3 6)

/-- R135: the checks of an install from the position on. -/
def installAt (k : ChainIx) (c : ChainCfg) (isA : Bool) (capacity : Nat) (s : State) : Code × State :=
  let p := (posOf (s.chain k) isA).state
  if p = .lead || p = .lag then refused .busy s
  else if chainUnbound s c then refused .badBinding s
  else accepted (installCartridge k c isA capacity s)

def installCommand (body : List Byte) (k : ChainIx) (s : State) : Code × State :=
  match (s.chain k).cfg with
  | none => refused .notLoaded s
  | some c =>
    match position? (fieldAt body 2 1), capacity? body with
    | some isA, some capacity => installAt k c isA capacity s
    | _, _ => refused .badValue s

/-- INSTALL_CARTRIDGE (R135). -/
def execInstallCartridge (s : State) : Answer :=
  commandRequest .installCartridge (fun body => onIndex (installCommand body) body) s

/-- R136: the effect of a removal by the position's state. -/
def removeAt (k : ChainIx) (isA : Bool) (s : State) : Code × State :=
  match (posOf (s.chain k) isA).state with
  | .lead => refused .busy s
  | .empty => accepted s
  | .lag => accepted (s.setChain k (setPos (s.chain k) isA {}))
  | .spent => accepted (s.setChain k (setPos (s.chain k) isA {}))

def removeCommand (body : List Byte) (k : ChainIx) (s : State) : Code × State :=
  if (s.chain k).cfg.isNone then refused .notLoaded s
  else
    match position? (fieldAt body 2 1) with
    | none => refused .badValue s
    | some isA => removeAt k isA s

/-- REMOVE_CARTRIDGE (R136). -/
def execRemoveCartridge (s : State) : Answer :=
  commandRequest .removeCartridge (fun body => onIndex (removeCommand body) body) s

/-! ## Tanks (R151, R152, R155) -/

/-- R151: a point or an actuator is not loaded or not of its kind, or the drain's safe value is its open value. -/
def tankUnbound (s : State) (c : TankCfg) : Bool :=
  !isKind .level (s.point c.levelPoint) || !isKind .silver (s.point c.silverPoint) || !isKind .ph (s.point c.phPoint)
    || !isKind .flow (s.point c.outletPoint) || (s.actuator c.inlet.act).cfg.isNone
    || (s.actuator c.drain.act).cfg.isNone || (s.actuator c.rework.act).cfg.isNone || drainSafeOpen s c

def startTank (t : TankIx) (s : State) : Code × State :=
  match (s.tank t).cfg with
  | none => refused .notLoaded s
  | some c =>
    if (s.tank t).state ≠ .idle then refused .busy s
    else if tankUnbound s c then refused .badBinding s
    else if counterTaken s c.outletPoint (.tank t) then refused .conflict s
    else accepted (tankGo t .filling s)

/-- START_TANK (R151). -/
def execStartTank (s : State) : Answer := commandRequest .startTank (onIndex startTank) s

/-- R152: the tank goes to IDLE: timers stopped, the test cleared, its place in the release queue given up. -/
def idleTank (t : TankIx) (s : State) : State :=
  let s := s.setTank t
    { s.tank t with dwell := none, test := none, silverSamples := 0, phSamples := 0, deferred := false }
  tankGo t .idle (s.setDisch { s.disch with queue := s.disch.queue.filter (· ≠ t) })

def stopTank (t : TankIx) (s : State) : Code × State :=
  if (s.tank t).cfg.isNone then refused .notLoaded s
  else
    match (s.tank t).state with
    | .releasing => refused .busy s
    | .rework => refused .busy s
    | .idle => accepted s
    | .filling => accepted (idleTank t s)
    | .mixing => accepted (idleTank t s)
    | .testing => accepted (idleTank t s)
    | .queued => accepted (idleTank t s)

/-- STOP_TANK (R152). -/
def execStopTank (s : State) : Answer := commandRequest .stopTank (onIndex stopTank) s

def closeFillCommand (t : TankIx) (s : State) : Code × State :=
  match (s.tank t).cfg with
  | none => refused .notLoaded s
  | some c =>
    if (s.tank t).state ≠ .filling then refused .busy s
    else if atLowLevel s c then refused .busy s
    else accepted (closeOfFill t c s)

/-- CLOSE_FILL (R155). -/
def execCloseFill (s : State) : Answer := commandRequest .closeFill (onIndex closeFillCommand) s

/-! ## Clock and classes (R168, R185) -/

/-- R168: day in two bytes, seconds in three. -/
def setClockCommand (body : List Byte) (s : State) : Code × State :=
  let sec := fieldAt body 3 3
  if 86399 < sec then refused .badValue s
  else accepted (recomputeDay (s.setDisch { s.disch with clock := some { day := fieldAt body 1 2, sec := sec } }))

/-- SET_CLOCK (R168, R169). -/
def execSetClock (s : State) : Answer := commandRequest .setClock setClockCommand s

/-- R185: hold or free a class. -/
def maskCommand (held : Bool) (body : List Byte) (s : State) : Code × State :=
  match index? 4 (fieldAt body 1 1) with
  | none => refused .badValue s
  | some c => accepted (s.setReports { s.reports with masks := s.reports.masks.set c held })

/-- MASK_CLASS (R185). -/
def execMaskClass (s : State) : Answer := commandRequest .maskClass (maskCommand true) s

/-- UNMASK_CLASS (R185). -/
def execUnmaskClass (s : State) : Answer := commandRequest .unmaskClass (maskCommand false) s

/-! ## Pass-through sets (R90) -/

/-- R90: a loaded actuator has a FIELD binding to the node and channel. -/
def channelOwned (s : State) (n : NodeIx) (c : Channel) : Bool :=
  s.actuators.toList.any fun x => x.cfg.any (·.binding = .field n c)

/-- R90: the arguments of a PASS_SET: node, channel and value, each in its range. -/
def passArgs? (body : List Byte) : Option (NodeIx × Channel × Nat) := do
  let n ← node? (fieldAt body 1 1)
  let c ← index? 4 (fieldAt body 2 1)
  let v ← within 0 1000 (fieldAt body 3 2)
  pure (n, c, v)

/-- R90: checks 2 to 5 of a PASS_SET, in their order: a refusal's code, or the value and whether it was clamped. -/
def passCheck (s : State) (n : NodeIx) (c : Channel) (v : Nat) : Except Code (Nat × Bool) :=
  if channelOwned s n c then .error .owned
  else if s.port.fallback then .error .fallback
  else if s.port.safeHold then .error .held
  else
    match interlockCheck s n c v with
    | none => .error .interlocked
    | some r => if Config.passCapacity ≤ s.line.passQ.length then .error .busy else .ok r

/-- R66, R90: the entry joins the tail of the pass-through queue; no RESULT, and the port is not holding after it (R194). -/
def joinPass (tag : Byte) (n : NodeIx) (c : Channel) (r : Nat × Bool) (s : State) : State :=
  s.setLine
    { s.line with passQ := s.line.passQ ++ [{ tag := tag, node := n, channel := c, value := r.1, clamped := r.2 }] }

/-- R90: the execution of a PASS_SET. -/
def runPassSet (r : Request) (s : State) : State :=
  match passArgs? r.body with
  | none => answer r.tag .badValue s
  | some (n, c, v) =>
    match passCheck s n c v with
    | .error code => answer r.tag code s
    | .ok w => joinPass r.tag n c w s

/-- PASS_SET (R90, R91). -/
def execPassSet (s : State) : Answer := s.live (takeRequest (isCommand .passSet) runPassSet)

/-! ## Part conditions (R197 to R201) -/

/-- R199: entry into SAFE-HOLD, in the order of the table of R199. -/
def enterSafeHold (s : State) : State :=
  let s := s.setPort { s.port with safeHold := true }
  stopRelease .safeHold (cellsSafe (flushPass .held (actuatorsSafe (raiseAllSafe s))))

def allSafeCommand (_ : List Byte) (s : State) : Code × State :=
  accepted (if s.port.safeHold then s else enterSafeHold s)

/-- ALL_SAFE (R199). -/
def execAllSafe (s : State) : Answer := commandRequest .allSafe allSafeCommand s

/-- R200: FALLBACK is left. -/
def leaveFallback (s : State) : State :=
  if s.port.fallback then raiseAlert .fallbackLeft .part [] (s.setPort { s.port with fallback := false }) else s

/-- R164: every loaded tank requests the values of its state, from T0 to T3. -/
def tanksRequest (s : State) : State := (List.finRange 4).foldl (fun s t => tankRequest t s) s

/-- R164, R200: SAFE-HOLD is left. -/
def leaveSafeHold (s : State) : State :=
  if s.port.safeHold then tanksRequest (s.setPort { s.port with safeHold := false }) else s

def resumeCommand (_ : List Byte) (s : State) : Code × State := accepted (leaveSafeHold (leaveFallback s))

/-- RESUME (R200). -/
def execResume (s : State) : Answer := commandRequest .resume resumeCommand s

/-- R197, 12.3: the status that KEEPALIVE answers, with the requests that still wait. -/
def statusBytes (s : State) : List Byte :=
  flagByte s.port.fallback ++ flagByte s.port.safeHold ++ be 1 (resetCauseCode s.port.cause)
    ++ timerBytes 2 s.port.silence ++ be 1 s.port.requests.length ++ clockBytes s.clock

/-- KEEPALIVE (R197). -/
def execKeepalive (s : State) : Answer :=
  s.live <| takeRequest (isCommand .keepalive) fun r s => answerWith r.tag .ok (statusBytes s) s

/-- R201: the OK of RESET_PART is produced and execution ends. -/
def endExecution (tag : Byte) (s : State) : State :=
  let s := pushItem { tag := tag, code := .ok, part := 0, last := true, content := [], origin := .resetOk } s
  s.setPort { s.port with holding := true, ended := true }

/-- RESET_PART (R201). -/
def execResetPart (s : State) : Answer :=
  s.live <| takeRequest (isCommand .resetPart) fun r s => endExecution r.tag s

end Sys2Proof.Machine
end

