-- ==== Sys2Proof/Machine/Reset.lean ====
section
/-! DEFINITION. Resets (R201, R202 and the reset rule of every chapter): what the beginning of a reset cuts off, what its end leaves, and
the rows POWER_RESET, POWER_RESET_END, RESET_PIN_ASSERTED and RESET_PIN_RELEASED. -/

namespace Sys2Proof.Machine

/-- R107: a pin after a reset: UNUSED and high impedance; the level that stands on it from outside is what it was. -/
def resetPin (x : Pin) : Pin := { level := x.level }

/-- R191: the bit rate of the two strap levels. -/
def rateOf (hi lo : Bool) : PlantRate :=
  match hi, lo with
  | false, false => .r19200
  | false, true => .r38400
  | true, false => .r115200
  | true, true => .r230400

/-- R202: the Plant Port after a reset of that cause; the strap levels and the bit rate stand. -/
def resetPort (cause : ResetCause) (x : PlantPort) : PlantPort :=
  { strapHi := x.strapHi, strapLo := x.strapLo, rate := x.rate, cause := cause }

/-- Every block at its reset values (R31, R50, R74, R93, R107, R130, R145, R165, R182, R190, R202), before RESTARTED and the
ALL-SAFE that the end of the reset raises. The waiting commands stay. -/
def clearAll (s : State) : State :=
  { State.reset with
    pending := s.pending
    port := resetPort s.port.cause s.port
    reports := { entries := [], classMap := defaultClasses }
    line := { State.reset.line with allSafePending := false }
    pins := eachOf resetPin s.pins }

/-- R202: from the beginning of a reset everything is cut off; `mark` records which reset is in progress (log 10). -/
def beginReset (mark : PlantPort → PlantPort) (s : State) : State :=
  let p := s.port
  let s := clearAll s
  s.setPort (mark { s.port with powerReset := p.powerReset, pinReset := p.pinReset, powerSeen := p.powerSeen })

/-- The code of a reset cause in RESTARTED (R190, R205). -/
def causeFigure : ResetCause → Nat
  | .power => 1
  | .pin => 2
  | .command => 3

/-- R69, R190, R202: the end of a reset: the blocks at their reset values, RESTARTED the only report, an ALL-SAFE pending. -/
def endReset (cause : ResetCause) (s : State) : State :=
  let s := clearAll s
  { s with
    port := { s.port with cause := cause }
    reports :=
      { entries := [{ report := .alert .restarted .part [causeFigure cause] none, cls := 0 }], classMap := defaultClasses }
    line := { s.line with allSafePending := true } }

/-- R191: the straps are read. -/
def readStraps (hi lo : Bool) (s : State) : State :=
  s.setPort { s.port with strapHi := hi, strapLo := lo, rate := rateOf hi lo }

/-- R202: a POWER or PIN reset ends when neither is in progress; a reset whose causes overlap is POWER (log 9). -/
def finishReset (hi lo : Bool) (s : State) : State :=
  if s.port.powerReset || s.port.pinReset then s
  else readStraps hi lo (endReset (if s.port.powerSeen then .power else .pin) s)

/-- R201, R202: the COMMAND reset begins and ends at once, keeping the bit rate. -/
def commandReset (s : State) : State := endReset .command s

/-- POWER_RESET (R202): the supply rises. -/
def execPowerReset (s : State) : Answer :=
  .next (beginReset (fun p => { p with powerReset := true, powerSeen := true }) s)

/-- POWER_RESET_END (R202): the supply has been within its range long enough. -/
def execPowerResetEnd (hi lo : Bool) (s : State) : Answer :=
  .next
    (if s.port.powerReset then finishReset hi lo (s.setPort { s.port with powerReset := false }) else s)

/-- RESET_PIN_ASSERTED (R202): the reset pin has been low for 50 µs. -/
def execResetPinAsserted (s : State) : Answer :=
  .next (beginReset (fun p => { p with pinReset := true }) s)

/-- RESET_PIN_RELEASED (R202): the reset pin returns high. -/
def execResetPinReleased (hi lo : Bool) (s : State) : Answer :=
  .next (if s.port.pinReset then finishReset hi lo (s.setPort { s.port with pinReset := false }) else s)

end Sys2Proof.Machine
end

