-- ==== Sys2Proof/Machine/PlantPort.lean ====
section
/-! DEFINITION. The plant line (chapter 11, R188, R204): receiving frames byte by byte, sending RESULTs and reports, the silence timer
and entry into FALLBACK. -/

namespace Sys2Proof.Machine

/-! ## Receiving (R192, R193) -/

/-- R192: a valid frame restarts the silence timer at the timeout of the LINE parameters; a timeout of 0 leaves it stopped. -/
def restartSilence (s : State) : State := s.setPort { s.port with silence := silenceFor s.line.params.silence }

/-- R193: the QUEUE_FULL answers that wait to be sent. -/
def fullAnswers (s : State) : Nat := (s.port.results.filter fun r => r.origin = .queueFull).length

/-- R193: a valid request joins the queue, is answered QUEUE_FULL, or is discarded without answer. -/
def takeFrameRequest (r : Request) (s : State) : State :=
  if s.port.requests.length < Config.requestCapacity then s.setPort { s.port with requests := s.port.requests ++ [r] }
  else if fullAnswers s < Config.queueFullCapacity then
    pushItem { tag := r.tag, code := .queueFull, part := 0, last := true, content := [], origin := .queueFull } s
  else s

/-- R192, R193: a valid frame, whatever its kind. -/
def acceptFrame (r : Request) (s : State) : State := takeFrameRequest r (restartSilence s)

/-- R204: the two bytes of a CRC-16, most significant first. -/
def crcBytes (bs : List Byte) : List Byte := be 2 (crc16 bs).toNat

/-- R192: the bytes after the start byte are a whole frame whose CRC is right: `covered` runs from the length to the last body
byte. -/
def completeFrame (bs : List Byte) (s : State) : State :=
  let n := fieldAt bs 0 1
  let covered := bs.take (n + 1)
  if bs.drop (n + 1) = crcBytes covered then
    acceptFrame { kind := bs.getD 1 0, tag := bs.getD 2 0, body := covered.drop 3 } s
  else s

/-- The receive path's state. -/
def setRx (rx : Option (List Byte)) (s : State) : State := s.setPort { s.port with rx := rx }

/-- R192: the bytes after a start byte, with the one just heard: discarded for a length out of range, taken when complete. -/
def afterByte (bs : List Byte) (s : State) : State :=
  let n := fieldAt bs 0 1
  if n < 2 || 242 < n then setRx none s
  else if bs.length < n + 3 then setRx (some bs) s
  else completeFrame bs (setRx none s)

/-- R192: one byte arrives. -/
def receiveByte (s : State) (b : Byte) : State :=
  match s.port.rx with
  | none => if b = 90 then setRx (some []) s else s
  | some bs => afterByte (bs ++ [b]) s

/-- PLANT_FRAME_RECEIVED (R192, R193): the bytes heard on the plant line, in order (log 31). -/
def execPlantFrameReceived (heard : List Byte) (s : State) : Answer := s.live fun s => heard.foldl receiveByte s

/-- PLANT_FRAME_GAP_TIMEOUT (R192): an incomplete frame is discarded. -/
def execPlantFrameGapTimeout (s : State) : Answer := s.live (setRx none)

/-! ## Sending (R188, R194, R204) -/

/-- R204: a plant frame: start byte, length, kind with 128 added for the gap flag, tag, body and CRC-16. -/
def plantFrame (kind : Nat) (gap : Bool) (tag : Byte) (body : List Byte) : List Byte :=
  let covered := be 1 (body.length + 2) ++ be 1 (kind + if gap then 128 else 0) ++ [tag] ++ body
  90 :: covered ++ crcBytes covered

/-- R204: the body of a RESULT. -/
def resultBody (r : ResultItem) : List Byte :=
  be 1 (codeNumber r.code) ++ be 1 r.part ++ flagByte r.last ++ r.content

/-- R188: a frame starts: it takes the gap flag with it, which is cleared. -/
def startFrame (kind : Nat) (tag : Byte) (body : List Byte) (resetOk : Bool) (s : State) : State :=
  let s' := s.setPort { s.port with tx := some { bytes := plantFrame kind s.reports.gap tag body, resetOk := resetOk } }
  s'.setReports { s.reports with gap := false }

/-- R194: the RESULT for which the port holds is the last part of an executed request's. -/
def endsHolding (r : ResultItem) : Bool := r.last && (r.origin = .executed || r.origin = .resetOk)

/-- R188, R194: the first RESULT starts; the port stops holding when it is the last part it held for. -/
def startResult (r : ResultItem) (rest : List ResultItem) (s : State) : State :=
  let s := s.setPort { s.port with results := rest, holding := s.port.holding && !endsHolding r }
  startFrame 65 r.tag (resultBody r) (r.origin = .resetOk) s

/-- R188: the oldest entry of the lowest-numbered unmasked class that holds any. -/
def nextReport (q : ReportQueue) : Option Entry :=
  (List.finRange 4).findSome? fun c => if q.masks[c] then none else q.entries.find? fun e => e.cls = c

/-- R188: the entry leaves the queue: the oldest of its class. -/
def dropReport (e : Entry) (q : ReportQueue) : ReportQueue :=
  { q with entries := q.entries.eraseP fun x => x.cls = e.cls }

/-- R188: a queued report starts. -/
def startReport (e : Entry) (s : State) : State :=
  startFrame (reportFrameKind e.report) 0 (reportBody e) false (s.setReports (dropReport e s.reports))

/-- R188: the choice of the transmit path when it is free. -/
def transmitNext (s : State) : State :=
  match s.port.results with
  | r :: rest => startResult r rest s
  | [] =>
    match nextReport s.reports with
    | some e => startReport e s
    | none => s

/-- TRANSMIT_NEXT_FRAME (R188). -/
def execTransmitNextFrame (s : State) : Answer := s.live fun s => if s.port.tx.isNone then transmitNext s else s

/-- PLANT_FRAME_SENT (R188, R201): the transmit path falls free; after RESET_PART's OK the part resets. -/
def execPlantFrameSent (s : State) : Answer :=
  s.live fun s =>
    match s.port.tx with
    | none => s
    | some f => if f.resetOk then commandReset s else s.setPort { s.port with tx := none }

/-! ## Silence and FALLBACK (R197, R198) -/

/-- R198: entry into FALLBACK. -/
def enterFallback (s : State) : State :=
  let s := s.setPort { s.port with fallback := true }
  stopRelease .fallback (flushPass .fallback (raiseAlert .fallbackEntered .part [s.line.params.silence] s))

/-- R197: the silence timer expires: it stops, and the part enters FALLBACK if it is not in it. -/
def silenceExpired (s : State) : State :=
  let s := s.setPort { s.port with silence := none }
  if s.port.fallback then s else enterFallback s

/-- SILENCE_TIMER_EXPIRY (R197). -/
def execSilenceTimerExpiry (s : State) : Answer := s.live fun s => if s.port.silence.isSome then silenceExpired s else s

end Sys2Proof.Machine
end

