-- ==== Sys2Proof/Machine/Metering.lean ====
section
/-! DEFINITION. The meterings of a tank: outlet readings (R161), rework (R163), the metering timer's event (R154); and of a release: the
release evaluation (R176, R177), the release metering (R178) and the expiry of the discharge timer (R175). -/

namespace Sys2Proof.Machine

/-! ## Outlet readings (R161) -/

/-- R161: an outlet reading: the volume that has left since the last, or none when the outlet is not available. -/
def outletReading (t : TankIx) (c : TankCfg) (s : State) : State × Option Nat :=
  let p := s.point c.outletPoint
  match counterSource p with
  | some (q, k) =>
    if counterMapped s q then
      let n := pulsesSince s q (s.tank t).outSnapshot
      let sum := n * k + (s.tank t).outVolResidue
      let s' := s.setTank t { s.tank t with outVolResidue := sum % 100, outSnapshot := counterValue s q }
      (takeCounter c.outletPoint n k s', some (min (sum / 100) Config.max24))
    else
      (failPoint c.outletPoint .unmapped (s.setTank t { s.tank t with outSnapshot := 0 }), none)
  | none => if usable p then (s, some (min p.value Config.max24)) else (s, none)

/-- The test concentration of a tank's batch record; 0 without one. -/
def testConc (x : Tank) : Nat := match x.batch with | some b => b.conc | none => 0

/-- R161: the outflow mass that a volume carries, with the outflow mass residue. -/
def outflowSum (x : Tank) (w : Nat) : Nat := testConc x * w + x.outMassResidue

/-- R161: keep the remainder of the outflow mass. -/
def keepOutflowResidue (t : TankIx) (w : Nat) (s : State) : State :=
  s.setTank t { s.tank t with outMassResidue := outflowSum (s.tank t) w % 1000 }

/-! ## Rework (R163) -/

/-- R163, step 1: the credit of a rework's outflow. -/
def creditRework (d : ReworkDest) (m v : Nat) (s : State) : State :=
  match d with
  | .chain k => creditChain k m v s
  | .ret => creditReturn m v s

/-- R163, step 1: take an outlet reading and credit its outflow. -/
def reworkOutflow (t : TankIx) (c : TankCfg) (s : State) : State :=
  match outletReading t c s with
  | (s, none) => s
  | (s, some w) => creditRework c.reworkDest (outflowSum (s.tank t) w / 1000) w (keepOutflowResidue t w s)

/-- R163, step 2: the rework ends at the low level. -/
def endRework (t : TankIx) (s : State) : State :=
  let s := updBatch t (fun b => { b with outcome := .reworked }) s
  let s := raiseBatch t .reworked s
  tankGo t .filling (s.setTank t { s.tank t with paused := false })

/-- R163, step 3: the pause flag evaluated again; a change requests the rework value it gives. -/
def reworkPause (t : TankIx) (c : TankCfg) (s : State) : State :=
  let p := reworkPaused s c
  if p = (s.tank t).paused then s
  else
    let s := s.setTank t { s.tank t with paused := p }
    ownerRequest c.rework.act (valveValue c.rework (reworkOpen (s.tank t))) s

/-- R163: the metering of a tank in REWORK. -/
def meterRework (t : TankIx) (c : TankCfg) (s : State) : State :=
  let s := reworkOutflow t c s
  if atLowLevel s c then endRework t s else reworkPause t c s

/-! ## The metering timer (R154) -/

/-- R154: the metering of a tank, by its state. -/
def meterTank (t : TankIx) (c : TankCfg) (s : State) : State :=
  match (s.tank t).state with
  | .filling =>
    if usable (s.point c.levelPoint) && c.high ≤ (s.point c.levelPoint).value then closeOfFill t c s else s
  | .testing => if (s.tank t).deferred && usable (s.point c.levelPoint) then testDecision t c s else s
  | .rework => meterRework t c s
  | .idle => s
  | .mixing => s
  | .queued => s
  | .releasing => s

/-! ## Release (R176 to R178) -/

/-- R177, R179: a PIN-bound drain actuator that failed at the request of the release stops it. -/
def releaseDrainCheck (t : TankIx) (s : State) : State :=
  match (s.tank t).cfg with
  | none => s
  | some c =>
    match (s.actuator c.drain.act).cfg with
    | some { binding := .pin _, .. } => drainFailed c.drain.act s
    | some { binding := .field .., .. } => s
    | none => s

/-- R177: the tank becomes RELEASING. -/
def startRelease (t : TankIx) (s : State) : State :=
  let s := tankGo t .releasing s
  match (s.tank t).cfg with
  | none => s
  | some c => releaseDrainCheck t (outletSnapshot t c s)

/-- R176: the head's remaining estimate is above the cap of a loaded permit. -/
def overCap (s : State) (t : TankIx) : Bool := s.disch.permit.any fun p => p.cap < remainingEstimate (s.tank t)

/-- R176: the head may be released. -/
def mayRelease (s : State) (t : TankIx) : Bool :=
  (releasingTank s).isNone && drainAccepts s && remainingEstimate (s.tank t) ≤ remainingBudget s

/-- R176: the release evaluation, looking at no more heads than `n`. -/
def evaluate : Nat → State → State
  | 0, s => s
  | n + 1, s =>
    match s.disch.queue with
    | [] => s
    | t :: rest =>
      let s' := s.setDisch { s.disch with queue := rest }
      if overCap s t then evaluate n (enterRework t .overCap s')
      else if mayRelease s t then startRelease t s'
      else s

/-- R178, step 2: the outflow mass delivered. -/
def deliverRelease (t : TankIx) (m : Nat) (s : State) : State :=
  consume m (updBatch t (fun b => { b with released := add48 b.released m }) s)

/-- R178, step 3: the release completes. -/
def completeRelease (t : TankIx) (s : State) : State :=
  let s := updBatch t (fun b => { b with outcome := .released }) s
  let s := s.setDisch { s.disch with released := satAdd Config.max16 s.disch.released 1 }
  raiseBatch t .released (tankGo t .filling s)

/-- R178: the metering of the RELEASING tank. Log 37, the model's choice: when the outlet point is an effluent point too and the
counter value handed on at part 1 (R44) stops the release, the outflow is delivered all the same, and parts 3 and 4 find no release. -/
def meterRelease (t : TankIx) (c : TankCfg) (s : State) : State :=
  match outletReading t c s with
  | (s, none) => stopRelease .meterLost s
  | (s, some w) =>
    let m := outflowSum (s.tank t) w / 1000
    let s := deliverRelease t m (keepOutflowResidue t w s)
    if (s.tank t).state ≠ .releasing then s
    else if atLowLevel s c then completeRelease t s
    else if capReached s then stopRelease .budget s
    else s

/-- R175, part 2: the release metering, if a tank is RELEASING. -/
def meterReleasing (s : State) : State :=
  match releasingTank s with
  | none => s
  | some t =>
    match (s.tank t).cfg with
    | none => s
    | some c => meterRelease t c s

/-- R175, part 3: the release evaluation. -/
def evaluateQueue (s : State) : State := evaluate s.disch.queue.length s

/-- R175: the expiry of the discharge timer, in its three parts. Log 38, the model's choice: a tank that part 2 stops and part 3 releases
again makes the requests of QUEUED and then those of RELEASING. -/
def dischargeTick (s : State) : State :=
  let s := s.setTimers { s.timers with discharge := Config.secondMs }
  evaluateQueue (meterReleasing (countClock s))

end Sys2Proof.Machine
end

