-- ==== Sys2Proof/Machine/TankTimers.lean ====
section
/-! DEFINITION. The timed commands of the Tank Controller and the Discharge Controller: TANK_METERING, DWELL_TIMER_EXPIRY,
TEST_TIMER_EXPIRY and DISCHARGE_TIMER_EXPIRY. -/

namespace Sys2Proof.Machine

/-- R154: the metering timer of a loaded tank expires; it runs while the record is loaded. -/
def tankExpired (t : TankIx) (s : State) : State :=
  match (s.tank t).cfg with
  | none => s
  | some c =>
    if (s.tank t).metering.isSome then
      meterTank t c (s.setTank t { s.tank t with metering := some Config.secondMs })
    else s

/-- TANK_METERING (R154). -/
def execTankMetering (t : TankIx) (s : State) : Answer := s.live (tankExpired t)

/-- R156: the dwell timer of a MIXING tank expires. -/
def dwellExpired (t : TankIx) (s : State) : State :=
  match (s.tank t).cfg with
  | none => s
  | some c => if (s.tank t).state = .mixing && (s.tank t).dwell.isSome then toTesting t c s else s

/-- DWELL_TIMER_EXPIRY (R156). -/
def execDwellTimerExpiry (t : TankIx) (s : State) : Answer := s.live (dwellExpired t)

/-- R159: the test timer of a TESTING tank expires. -/
def testExpired (t : TankIx) (s : State) : State :=
  match (s.tank t).cfg with
  | none => s
  | some _ =>
    if (s.tank t).state = .testing && (s.tank t).test.isSome then
      enterRework t .timeout (s.setTank t { s.tank t with test := none })
    else s

/-- TEST_TIMER_EXPIRY (R159). -/
def execTestTimerExpiry (t : TankIx) (s : State) : Answer := s.live (testExpired t)

/-- DISCHARGE_TIMER_EXPIRY (R175). -/
def execDischargeTimerExpiry (s : State) : Answer := s.live dischargeTick

end Sys2Proof.Machine
end

