-- ==== Sys2Proof/Machine/Time.lean ====
section
/-! DEFINITION. Quiet time: what a millisecond without an event does to the timers' remaining times (log 3). -/

namespace Sys2Proof.Machine

/-- A running timer one millisecond later; a stopped one stays stopped, and one that is due stays at 0 until its expiry is
taken. -/
def countDown (t : Option Nat) : Option Nat := t.map (· - 1)

/-- One millisecond passes and no event comes. During a reset no timer runs. -/
def quietTime (s : State) : State :=
  if s.inReset then s else
  { s with
    port := { s.port with silence := countDown s.port.silence }
    actuators := eachOf (fun a => { a with retry := countDown a.retry }) s.actuators
    pins := eachOf (fun p => { p with debounce := countDown p.debounce }) s.pins
    cells := eachOf (fun c => { c with regTimer := countDown c.regTimer }) s.cells
    chains := eachOf (fun k => { k with metering := countDown k.metering }) s.chains
    tanks := eachOf
      (fun t => { t with dwell := countDown t.dwell, test := countDown t.test, metering := countDown t.metering }) s.tanks
    timers :=
      { account := s.timers.account - 1, age := s.timers.age - 1, sampling := s.timers.sampling - 1,
        scan := s.timers.scan - 1, discharge := s.timers.discharge - 1 } }

end Sys2Proof.Machine
end

