-- ==== Sys2Proof/Machine/Dispatch.lean ====
section
/-! DEFINITION. Which meaning each command has, one arm per row of the table, in the table's order. -/

namespace Sys2Proof.Machine

def exec (i : Instr) (s : State) : Host.Outcome State Fault Refusal :=
  match i with
  | .plantFrameReceived heard => Sys2Proof.Machine.execPlantFrameReceived heard s
  | .plantFrameGapTimeout => Sys2Proof.Machine.execPlantFrameGapTimeout s
  | .otherKindRequest => Sys2Proof.Machine.execOtherKindRequest s
  | .loadPoint => Sys2Proof.Machine.execLoadPoint s
  | .loadCurve => Sys2Proof.Machine.execLoadCurve s
  | .loadScan => Sys2Proof.Machine.execLoadScan s
  | .loadStream => Sys2Proof.Machine.execLoadStream s
  | .loadActuator => Sys2Proof.Machine.execLoadActuator s
  | .loadCell => Sys2Proof.Machine.execLoadCell s
  | .loadChain => Sys2Proof.Machine.execLoadChain s
  | .loadTank => Sys2Proof.Machine.execLoadTank s
  | .loadPermit => Sys2Proof.Machine.execLoadPermit s
  | .loadPinmap => Sys2Proof.Machine.execLoadPinmap s
  | .loadInterlock => Sys2Proof.Machine.execLoadInterlock s
  | .loadClassmap => Sys2Proof.Machine.execLoadClassmap s
  | .loadLine => Sys2Proof.Machine.execLoadLine s
  | .readPoint => Sys2Proof.Machine.execReadPoint s
  | .readCurve => Sys2Proof.Machine.execReadCurve s
  | .readScan => Sys2Proof.Machine.execReadScan s
  | .readStream => Sys2Proof.Machine.execReadStream s
  | .readActuator => Sys2Proof.Machine.execReadActuator s
  | .readInterlock => Sys2Proof.Machine.execReadInterlock s
  | .readCell => Sys2Proof.Machine.execReadCell s
  | .readChain => Sys2Proof.Machine.execReadChain s
  | .readTank => Sys2Proof.Machine.execReadTank s
  | .readPermit => Sys2Proof.Machine.execReadPermit s
  | .readPinmap => Sys2Proof.Machine.execReadPinmap s
  | .readClassmap => Sys2Proof.Machine.execReadClassmap s
  | .readLine => Sys2Proof.Machine.execReadLine s
  | .startStream => Sys2Proof.Machine.execStartStream s
  | .stopStream => Sys2Proof.Machine.execStopStream s
  | .startCell => Sys2Proof.Machine.execStartCell s
  | .harvestCell => Sys2Proof.Machine.execHarvestCell s
  | .endHarvest => Sys2Proof.Machine.execEndHarvest s
  | .clearCell => Sys2Proof.Machine.execClearCell s
  | .installCartridge => Sys2Proof.Machine.execInstallCartridge s
  | .removeCartridge => Sys2Proof.Machine.execRemoveCartridge s
  | .startTank => Sys2Proof.Machine.execStartTank s
  | .stopTank => Sys2Proof.Machine.execStopTank s
  | .closeFill => Sys2Proof.Machine.execCloseFill s
  | .setClock => Sys2Proof.Machine.execSetClock s
  | .maskClass => Sys2Proof.Machine.execMaskClass s
  | .unmaskClass => Sys2Proof.Machine.execUnmaskClass s
  | .passSet => Sys2Proof.Machine.execPassSet s
  | .allSafe => Sys2Proof.Machine.execAllSafe s
  | .resume => Sys2Proof.Machine.execResume s
  | .keepalive => Sys2Proof.Machine.execKeepalive s
  | .resetPart => Sys2Proof.Machine.execResetPart s
  | .transmitNextFrame => Sys2Proof.Machine.execTransmitNextFrame s
  | .plantFrameSent => Sys2Proof.Machine.execPlantFrameSent s
  | .silenceTimerExpiry => Sys2Proof.Machine.execSilenceTimerExpiry s
  | .lineFree => Sys2Proof.Machine.execLineFree s
  | .requestFrameSent => Sys2Proof.Machine.execRequestFrameSent s
  | .fieldReplyReceived frame => Sys2Proof.Machine.execFieldReplyReceived frame s
  | .fieldFrameDiscarded frame => Sys2Proof.Machine.execFieldFrameDiscarded frame s
  | .replyWindowClosed => Sys2Proof.Machine.execReplyWindowClosed s
  | .silentAttemptResend => Sys2Proof.Machine.execSilentAttemptResend s
  | .holdoffDelayExpiry => Sys2Proof.Machine.execHoldoffDelayExpiry s
  | .allSafeFrameSent => Sys2Proof.Machine.execAllSafeFrameSent s
  | .allSafeComplete => Sys2Proof.Machine.execAllSafeComplete s
  | .scanClockStep => Sys2Proof.Machine.execScanClockStep s
  | .retryTimerExpiry actuator => Sys2Proof.Machine.execRetryTimerExpiry actuator s
  | .accountTimerExpiry => Sys2Proof.Machine.execAccountTimerExpiry s
  | .ageTimerExpiry => Sys2Proof.Machine.execAgeTimerExpiry s
  | .analogSamplingRound l8 l9 l10 l11 => Sys2Proof.Machine.execAnalogSamplingRound l8 l9 l10 l11 s
  | .pinLevelChange pin level => Sys2Proof.Machine.execPinLevelChange pin level s
  | .debounceTimerExpiry pin => Sys2Proof.Machine.execDebounceTimerExpiry pin s
  | .counterEdge pin level => Sys2Proof.Machine.execCounterEdge pin level s
  | .pwmFrameStart cell => Sys2Proof.Machine.execPwmFrameStart cell s
  | .regulationTimerExpiry cell => Sys2Proof.Machine.execRegulationTimerExpiry cell s
  | .chainMetering chain => Sys2Proof.Machine.execChainMetering chain s
  | .tankMetering tank => Sys2Proof.Machine.execTankMetering tank s
  | .dwellTimerExpiry tank => Sys2Proof.Machine.execDwellTimerExpiry tank s
  | .testTimerExpiry tank => Sys2Proof.Machine.execTestTimerExpiry tank s
  | .dischargeTimerExpiry => Sys2Proof.Machine.execDischargeTimerExpiry s
  | .powerReset => Sys2Proof.Machine.execPowerReset s
  | .powerResetEnd rateHi rateLo => Sys2Proof.Machine.execPowerResetEnd rateHi rateLo s
  | .resetPinAsserted => Sys2Proof.Machine.execResetPinAsserted s
  | .resetPinReleased rateHi rateLo => Sys2Proof.Machine.execResetPinReleased rateHi rateLo s
  | .badTableRequest => Sys2Proof.Machine.execBadTableRequest s
  | .unknownCommandCode => Sys2Proof.Machine.execUnknownCommandCode s

end Sys2Proof.Machine
end

