-- ==== Sys2Proof/Machine/Step.lean ====
section
/-! DEFINITION. One step: the command at the front of the queue acts on the part with the rest of the queue; on an empty
queue one millisecond of quiet time passes (log 3). -/

namespace Sys2Proof.Machine

/-- Take the first waiting command, or let quiet time pass. -/
def step (s : State) : Host.Outcome State Fault Refusal :=
  match s.pending with
  | [] => .next (quietTime s)
  | i :: rest => exec i (s.setPending rest)

/-- Put the command that the word spells at the front of the queue; the state unchanged where it spells none. -/
def State.withFetchWord (s : State) (nbits w : Nat) : State :=
  match decodeTableWord nbits w with
  | none => s
  | some i => s.setPending (i :: s.pending)

end Sys2Proof.Machine
end

