-- ==== Sys2Proof/WellFormed.lean ====
section
/-! DEFINITION. The operands an outside event can carry. Indices and samples are in range by their types; what is left
to check is that a frame event carries a frame and that the converter has a reference at each conversion. -/

namespace Sys2Proof

/-- A command is well formed when the bytes it carries can be what a line brings: at least one byte was heard on the
plant line (R192), and a field frame has at least one character (R51: silence inside a frame ends it, so it may be short or,
heard from a faulty node, long). The converter's reference is above 0 V (12.4). -/
def Instr.WellFormed : Instr → Bool
  | .plantFrameReceived heard => !heard.isEmpty
  | .plantFrameGapTimeout => true
  | .otherKindRequest => true
  | .loadPoint => true
  | .loadCurve => true
  | .loadScan => true
  | .loadStream => true
  | .loadActuator => true
  | .loadCell => true
  | .loadChain => true
  | .loadTank => true
  | .loadPermit => true
  | .loadPinmap => true
  | .loadInterlock => true
  | .loadClassmap => true
  | .loadLine => true
  | .readPoint => true
  | .readCurve => true
  | .readScan => true
  | .readStream => true
  | .readActuator => true
  | .readInterlock => true
  | .readCell => true
  | .readChain => true
  | .readTank => true
  | .readPermit => true
  | .readPinmap => true
  | .readClassmap => true
  | .readLine => true
  | .startStream => true
  | .stopStream => true
  | .startCell => true
  | .harvestCell => true
  | .endHarvest => true
  | .clearCell => true
  | .installCartridge => true
  | .removeCartridge => true
  | .startTank => true
  | .stopTank => true
  | .closeFill => true
  | .setClock => true
  | .maskClass => true
  | .unmaskClass => true
  | .passSet => true
  | .allSafe => true
  | .resume => true
  | .keepalive => true
  | .resetPart => true
  | .transmitNextFrame => true
  | .plantFrameSent => true
  | .silenceTimerExpiry => true
  | .lineFree => true
  | .requestFrameSent => true
  | .fieldReplyReceived frame => !frame.isEmpty
  | .fieldFrameDiscarded frame => !frame.isEmpty
  | .replyWindowClosed => true
  | .silentAttemptResend => true
  | .holdoffDelayExpiry => true
  | .allSafeFrameSent => true
  | .allSafeComplete => true
  | .scanClockStep => true
  | .retryTimerExpiry _ => true
  | .accountTimerExpiry => true
  | .ageTimerExpiry => true
  | .analogSamplingRound l8 l9 l10 l11 => [l8, l9, l10, l11].all (0 < ·.reference)
  | .pinLevelChange _ _ => true
  | .debounceTimerExpiry _ => true
  | .counterEdge _ _ => true
  | .pwmFrameStart _ => true
  | .regulationTimerExpiry _ => true
  | .chainMetering _ => true
  | .tankMetering _ => true
  | .dwellTimerExpiry _ => true
  | .testTimerExpiry _ => true
  | .dischargeTimerExpiry => true
  | .powerReset => true
  | .powerResetEnd _ _ => true
  | .resetPinAsserted => true
  | .resetPinReleased _ _ => true
  | .badTableRequest => true
  | .unknownCommandCode => true

end Sys2Proof
end

