-- ==== Sys2Proof/Safety.lean ====
section
/-! DEFINITION. The terms in which claims are stated: requests at the head of the queue and the port after they are answered, the rows of
the two request kinds, the ranges of the loaded fields and what a LOAD record spells, the conditions that blocks read of one another as
their rules give them, what single rules leave (the outbound layouts among it), and the invariants that every safe run keeps. -/

namespace Sys2Proof.Machine

/-! ## Requests -/

/-- The part is out of reset and the Plant Port executes `r` next, with `rest` behind it (R194). -/
def Executing (s : State) (r : Request) (rest : List Request) : Prop :=
  s.inReset = false ∧ s.port.holding = false ∧ s.port.ended = false ∧ s.port.requests = r :: rest

/-- R204, R205: a LOAD of record `i` of table `t`. -/
def loadOf (t : Table) (i : Nat) (record : List Byte) (tag : Byte) : Request :=
  { kind := 1, tag := tag, body := BitVec.ofNat 8 (tableCode t) :: BitVec.ofNat 8 i :: record }

/-- R204: a READ of record `i` of table `t`. -/
def readOf (t : Table) (i : Nat) (tag : Byte) : Request :=
  { kind := 2, tag := tag, body := [BitVec.ofNat 8 (tableCode t), BitVec.ofNat 8 i] }

/-- R196: a COMMAND with its argument bytes (logs 4 and 5). -/
def commandOf (c : Command) (args : List Byte) (tag : Byte) : Request :=
  { kind := 3, tag := tag, body := BitVec.ofNat 8 (commandCode c) :: args }

/-- The RESULT of one part that an executed request produces (R194, R204). -/
def resultOf (tag : Byte) (code : Code) (content : List Byte) : ResultItem :=
  { tag := tag, code := code, part := 0, last := true, content := content, origin := .executed }

/-- R194: the Plant Port `p` once the head of its queue is executed and answered `code`, with `rest` left. -/
def answered (p : PlantPort) (rest : List Request) (tag : Byte) (code : Code) : PlantPort :=
  { p with requests := rest, results := p.results ++ [resultOf tag code []], holding := true }

/-- R195: how many records a table has. -/
def tableSize : Table → Nat
  | .point => 32 | .curve => 8 | .scan => 48 | .stream => 16 | .actuator => 16 | .cell => 4 | .chain => 4 | .tank => 4
  | .permit => 1 | .pinmap => 12 | .interlock => 24 | .classmap => 21 | .line => 1

/-- The row that executes a LOAD of a table. -/
def loadRow : Table → Instr
  | .point => .loadPoint | .curve => .loadCurve | .scan => .loadScan | .stream => .loadStream
  | .actuator => .loadActuator | .cell => .loadCell | .chain => .loadChain | .tank => .loadTank
  | .permit => .loadPermit | .pinmap => .loadPinmap | .interlock => .loadInterlock | .classmap => .loadClassmap
  | .line => .loadLine

/-- The row that executes a READ of a table. -/
def readRow : Table → Instr
  | .point => .readPoint | .curve => .readCurve | .scan => .readScan | .stream => .readStream
  | .actuator => .readActuator | .cell => .readCell | .chain => .readChain | .tank => .readTank
  | .permit => .readPermit | .pinmap => .readPinmap | .interlock => .readInterlock | .classmap => .readClassmap
  | .line => .readLine

/-- The content that a block returns for a record number in range; nothing for one out of it. -/
def contentAt {n : Nat} (f : State → Fin n → List Byte) (s : State) (i : Nat) : List Byte :=
  match index? n i with
  | some k => f s k
  | none => []

/-- The content of a READ of record `i` of a table. -/
def readContent (t : Table) (s : State) (i : Nat) : List Byte :=
  match t with
  | .point => contentAt readPointContent s i
  | .curve => contentAt readCurveContent s i
  | .scan => contentAt readScanContent s i
  | .stream => contentAt readStreamContent s i
  | .actuator => contentAt readActuatorContent s i
  | .cell => contentAt readCellContent s i
  | .chain => contentAt readChainContent s i
  | .tank => contentAt readTankContent s i
  | .permit => contentAt readPermitContent s i
  | .pinmap => contentAt readPinContent s i
  | .interlock => contentAt readInterlockContent s i
  | .classmap => contentAt readClassContent s i
  | .line => contentAt readLineContent s i

/-- R205: the first part of a READ content: whether the record is loaded, then what it holds, `n` bytes that are 0 when it is not (log 14). -/
def loadedBytes (n : Nat) : Option (List Byte) → List Byte
  | some held => 1 :: held
  | none => List.replicate (n + 1) 0

/-- R196: the arguments' length by command code (log 5). -/
def commandLengths : List (Nat × Nat) :=
  [(1, 1), (2, 1), (3, 1), (4, 1), (5, 1), (6, 1), (7, 8), (8, 2), (9, 1), (10, 1), (11, 1), (12, 5), (13, 1), (14, 1),
    (15, 4), (16, 0), (17, 0), (18, 0), (19, 0)]

/-! ## Resets -/

/-- The pins with the levels that stand on them from outside, and nothing else (R107). -/
def barePins (s : State) : Vector Pin 12 := s.pins.map fun x => { level := x.level }

/-- R190: the Report Queue after a reset whose cause is coded `n`: RESTARTED alone, in class 0. -/
def restartedQueue (n : Nat) : ReportQueue :=
  { entries := [{ report := .alert .restarted .part [n] none, cls := 0 }], classMap := defaultClasses }

/-- The part at the end of a reset (R31, R50, R74, R93, R107, R130, R145, R165, R182, R190, R202). -/
def afterReset (cause : ResetCause) (hi lo : Bool) (rate : PlantRate) (s : State) : State :=
  { State.reset with
    pending := s.pending
    port := { strapHi := hi, strapLo := lo, rate := rate, cause := cause }
    reports := restartedQueue (resetCauseCode cause)
    pins := barePins s }

/-- The part while a POWER or a PIN reset is in progress (log 10). -/
def cutOff (power pin seen : Bool) (s : State) : State :=
  { State.reset with
    pending := s.pending
    port :=
      { strapHi := s.port.strapHi, strapLo := s.port.strapLo, rate := s.port.rate, cause := s.port.cause,
        powerReset := power, pinReset := pin, powerSeen := seen }
    reports := { entries := [], classMap := defaultClasses }
    line := { State.reset.line with allSafePending := false }
    pins := barePins s }

/-- The rows that act during a reset: those of the resets and of the pin levels. -/
def actsInReset : Instr → Bool
  | .powerReset => true
  | .powerResetEnd _ _ => true
  | .resetPinAsserted => true
  | .resetPinReleased _ _ => true
  | .pinLevelChange _ _ => true
  | .counterEdge _ _ => true
  | _ => false

/-! ## LOAD records -/

/-- The port executes a LOAD of record `i` of table `t` whose record has the table's length (R195). -/
def Loads (t : Table) (i : Nat) (s : State) (record : List Byte) (tag : Byte) (rest : List Request) : Prop :=
  Executing s (loadOf t i record tag) rest ∧ record.length = recordLength t record

/-- The outcome of an executed request that is refused with a code: nothing changes but the port. -/
def RefusedWith (c : Instr) (s : State) (rest : List Request) (tag : Byte) (code : Code) : Prop :=
  exec c s = .next { s with port := answered s.port rest tag code }

/-- The outcome of an executed request that is accepted and leaves `t` but for the port. -/
def AcceptedAs (c : Instr) (s : State) (rest : List Request) (tag : Byte) (t : State) : Prop :=
  exec c s = .next { t with port := answered t.port rest tag .ok }

/-- The RESULT of a pass-through that ends after its execution (R194). -/
def passResultOf (tag : Byte) (code : Code) (content : List Byte) : ResultItem :=
  { tag := tag, code := code, part := 0, last := true, content := content, origin := .passThrough }

/-! ## Ranges of the loaded fields -/

/-- R32, R33. -/
def PointCfg.InRange (c : PointCfg) : Prop :=
  1 ≤ c.staleLimit ∧ c.staleLimit ≤ 600 ∧
    match c.source with
    | .field .. => True
    | .counter _ k => 1 ≤ k ∧ k ≤ 65535 ∧ c.kind = .flow ∧ c.curve = none ∧ c.mirror = false
    | .switch _ => c.kind = .level ∧ c.curve = none ∧ c.mirror = false
    | .analog p => 8 ≤ p.val

/-- R1, R3; a divert position without a divert destination is held as 0 (log 30). -/
def StreamCfg.InRange (c : StreamCfg) : Prop :=
  c.fallbackConc ≤ 16777215 ∧ c.fallbackFlow ≤ 16777215 ∧ c.primaryPos ≤ 1000 ∧ c.divertPos ≤ 1000 ∧
    (c.divert = none → c.divertPos = 0) ∧ 10 ≤ c.minDivert ∧ c.minDivert ≤ 3600 ∧ c.shift ≤ 7 ∧
    (c.kind = .fixer ∨ c.kind = .bleachfix → c.primary ≠ .drain ∧ c.divert ≠ some .drain) ∧
    (c.divert ≠ none → c.divertPos ≠ c.primaryPos) ∧ c.divert ≠ some c.primary

/-- R108, R109. -/
def CellCfg.InRange (c : CellCfg) : Prop :=
  4 ≤ c.pwmPin.val ∧ c.pwmPin.val ≤ 7 ∧ 1 ≤ c.factor ∧ c.factor ≤ 4095 ∧ c.iMin ≤ c.iMax ∧ c.iMax ≤ c.iFs ∧
    1 ≤ c.iFs ∧ c.iFs ≤ 65535 ∧ c.vHyst ≤ c.vLimit ∧ c.vLimit ≤ 65535 ∧ 1 ≤ c.interval ∧ c.interval ≤ 60 ∧
    c.divider ∈ [1, 2, 4, 8, 16, 64, 256, 1024] ∧ c.threshold ≤ Config.max48

/-- R131, R132. -/
def ChainCfg.InRange (c : ChainCfg) : Prop :=
  c.aFirst ≤ 1000 ∧ c.bFirst ≤ 1000 ∧ c.aFirst ≠ c.bFirst ∧ c.limit ≤ 16777215 ∧ 1 ≤ c.count ∧ c.count ≤ 255 ∧
    500 ≤ c.swap ∧ c.swap ≤ 1000

/-- R146: an actuator's open and closed values. -/
def Valve.InRange (v : Valve) : Prop := v.opened ≤ 1000 ∧ v.closed ≤ 1000 ∧ v.opened ≠ v.closed

/-- R146, R147. -/
def TankCfg.InRange (c : TankCfg) : Prop :=
  1 ≤ c.capacity ∧ c.capacity ≤ 4000000000 ∧ c.high ≤ 1000 ∧ c.low < c.high ∧ c.inlet.InRange ∧ c.drain.InRange ∧
    c.rework.InRange ∧ c.dwell ≤ 3600 ∧ 1 ≤ c.samples ∧ c.samples ≤ 16 ∧ 30 ≤ c.timeout ∧ c.timeout ≤ 3600

/-- R166. -/
def PermitCfg.InRange (c : PermitCfg) : Prop :=
  1 ≤ c.cap ∧ c.cap ≤ Config.max48 ∧ c.concCap ≤ 16777215 ∧ c.phLow ≤ c.phHigh ∧ c.phHigh ≤ 1400 ∧
    c.dayStart ≤ 86399 ∧ c.lowPermille ≤ 1000 ∧ c.start ≤ Config.max48

/-- R57. -/
def LineParams.InRange (c : LineParams) : Prop :=
  c.bitRate ∈ [19200, 57600, 115200] ∧ 5 ≤ c.window ∧ c.window ≤ 250 ∧ 10 ≤ c.holdoff ∧ c.holdoff ≤ 100 ∧
    (c.silence = 0 ∨ (5 ≤ c.silence ∧ c.silence ≤ 600))

/-- R88: the argument of a condition. -/
def Cond.InRange : Cond → Prop
  | .budgetAbove p => p ≤ 1000
  | .always => True
  | .tankNotReleasing _ => True
  | .streamActive _ => True
  | .cellRunning _ => True

/-- R45: 2 to 16 breakpoints of rising x, each figure in its range. -/
def CurveInRange (c : Curve) : Prop :=
  2 ≤ c.length ∧ c.length ≤ 16 ∧ c.Pairwise (fun a b => a.1 < b.1) ∧
    ∀ b ∈ c, -32768 ≤ b.1 ∧ b.1 ≤ 32767 ∧ b.2 ≤ 16777215

/-- R94: the debounce time of an INPUT pin. -/
def PinFn.InRange : PinFn → Prop
  | .input _ d => d ≤ 255
  | .unused => True
  | .output _ => True
  | .counter .. => True
  | .cellPwm .. => True
  | .analog => True

/-! ## What a LOAD record spells (R205), table by table: the place of each field and the values that belong to it -/

/-- R205: the number in the `n` bytes from offset `off`, the most significant first. -/
def numberAt (r : List Byte) (off : Nat) : Nat → Nat
  | 0 => 0
  | n + 1 => 256 ^ n * (r.getD off 0).toNat + numberAt r (off + 1) n

/-- R205: the code of an enumerated value: its position in the list that defines the field, counted from 1. -/
def Coded {α : Type} (list : List α) (x : α) (code : Nat) : Prop := code ≠ 0 ∧ list[code - 1]? = some x

/-- R205: the code of an index that may be NONE. -/
def IndexCoded {n : Nat} (x : Option (Fin n)) (code : Nat) : Prop :=
  match x with
  | some i => code = i.val
  | none => code = 255

/-- R205: a destination's kind and index; the index of DRAIN and RETURN is ignored. -/
def DestCoded (d : Dest) (kind index : Nat) : Prop :=
  match d with
  | .cell e => kind = 1 ∧ index = e.val
  | .chain k => kind = 2 ∧ index = k.val
  | .tank t => kind = 3 ∧ index = t.val
  | .drain => kind = 4
  | .ret => kind = 5

/-- R32, R33. -/
def SpellsPoint (r : List Byte) (c : PointCfg) : Prop :=
  c.InRange ∧ Coded [.silver, .flow, .ph, .level, .volt] c.kind (numberAt r 0 1) ∧
    (match c.source with
      | .field n ch => numberAt r 1 1 = 1 ∧ numberAt r 2 1 = n.val + 1 ∧ numberAt r 3 1 = ch.val
      | .counter q k => numberAt r 1 1 = 2 ∧ numberAt r 4 1 = q.val ∧ numberAt r 5 2 = k
      | .switch p => numberAt r 1 1 = 3 ∧ numberAt r 7 1 = p.val
      | .analog p => numberAt r 1 1 = 4 ∧ numberAt r 7 1 = p.val) ∧
    IndexCoded c.curve (numberAt r 8 1) ∧ numberAt r 9 2 = c.staleLimit ∧ numberAt r 11 1 = c.mirror.toNat

/-- R45: the count, then five bytes for each breakpoint. -/
def SpellsCurve (r : List Byte) (x : Curve) : Prop :=
  CurveInRange x ∧ numberAt r 0 1 = x.length ∧
    ∀ k b, x[k]? = some b → (numberAt r (1 + 5 * k) 2 : Int) = b.1 % 65536 ∧ numberAt r (3 + 5 * k) 3 = b.2

/-- R62. -/
def SpellsScan (r : List Byte) (c : PointIx × Nat) : Prop :=
  1 ≤ c.2 ∧ c.2 ≤ 36000 ∧ numberAt r 0 1 = 1 ∧ numberAt r 1 1 = c.1.val ∧ numberAt r 2 2 = c.2

/-- R1, R3, and the STREAM load body of 12.3; a divert position without a divert destination is ignored. -/
def SpellsStream (r : List Byte) (c : StreamCfg) : Prop :=
  c.InRange ∧ Coded [.fixer, .bleachfix, .wash, .tail] c.kind (numberAt r 0 1) ∧ numberAt r 1 1 = c.silverPoint.val ∧
    numberAt r 2 1 = c.flowPoint.val ∧ numberAt r 3 3 = c.fallbackConc ∧ numberAt r 6 3 = c.fallbackFlow ∧
    numberAt r 9 1 = c.route.val ∧ DestCoded c.primary (numberAt r 10 1) (numberAt r 11 1) ∧
    numberAt r 12 2 = c.primaryPos ∧
    (match c.divert with
      | none => numberAt r 14 1 = 0
      | some d => DestCoded d (numberAt r 14 1) (numberAt r 15 1) ∧ numberAt r 16 2 = c.divertPos) ∧
    numberAt r 18 2 = c.minDivert ∧ numberAt r 20 1 = c.shift

/-- R75. -/
def SpellsActuator (r : List Byte) (c : ActuatorCfg) : Prop :=
  c.safe ≤ 1000 ∧
    (match c.binding with
      | .field n ch => numberAt r 0 1 = 1 ∧ numberAt r 1 1 = n.val + 1 ∧ numberAt r 2 1 = ch.val
      | .pin p => numberAt r 0 1 = 2 ∧ numberAt r 3 1 = p.val) ∧
    numberAt r 4 2 = c.safe

/-- R108, R109. -/
def SpellsCell (r : List Byte) (c : CellCfg) : Prop :=
  c.InRange ∧ numberAt r 0 1 = 1 ∧ numberAt r 1 1 = c.pwmPin.val ∧ numberAt r 2 1 = c.voltPoint.val ∧
    numberAt r 3 2 = c.factor ∧ numberAt r 5 2 = c.iMin ∧ numberAt r 7 2 = c.iMax ∧ numberAt r 9 2 = c.iFs ∧
    numberAt r 11 2 = c.vLimit ∧ numberAt r 13 2 = c.vHyst ∧ numberAt r 15 1 = c.interval ∧
    numberAt r 16 2 = c.divider ∧ numberAt r 18 6 = c.threshold

/-- R131, R132. -/
def SpellsChain (r : List Byte) (c : ChainCfg) : Prop :=
  c.InRange ∧ numberAt r 0 1 = 1 ∧ numberAt r 1 1 = c.order.val ∧ numberAt r 2 2 = c.aFirst ∧
    numberAt r 4 2 = c.bFirst ∧ IndexCoded c.tail (numberAt r 6 1) ∧ numberAt r 7 3 = c.limit ∧
    numberAt r 10 1 = c.count ∧ numberAt r 11 2 = c.swap

/-- R146: an actuator with its open and its closed value, from offset `off`. -/
def SpellsValve (r : List Byte) (off : Nat) (v : Valve) : Prop :=
  numberAt r off 1 = v.act.val ∧ numberAt r (off + 1) 2 = v.opened ∧ numberAt r (off + 3) 2 = v.closed

/-- R146, R147; the rework destination is coded as a destination (log 36). -/
def SpellsTank (r : List Byte) (c : TankCfg) : Prop :=
  c.InRange ∧ numberAt r 0 1 = 1 ∧ numberAt r 1 4 = c.capacity ∧ numberAt r 5 1 = c.levelPoint.val ∧
    numberAt r 6 1 = c.silverPoint.val ∧ numberAt r 7 1 = c.phPoint.val ∧ numberAt r 8 1 = c.outletPoint.val ∧
    numberAt r 9 2 = c.high ∧ numberAt r 11 2 = c.low ∧ SpellsValve r 13 c.inlet ∧ SpellsValve r 18 c.drain ∧
    SpellsValve r 23 c.rework ∧
    (match c.reworkDest with
      | .chain k => numberAt r 28 1 = 2 ∧ numberAt r 29 1 = k.val
      | .ret => numberAt r 28 1 = 5) ∧
    numberAt r 30 2 = c.dwell ∧ numberAt r 32 1 = c.samples ∧ numberAt r 33 2 = c.timeout

/-- R166. -/
def SpellsPermit (r : List Byte) (c : PermitCfg) : Prop :=
  c.InRange ∧ numberAt r 0 1 = 1 ∧ numberAt r 1 6 = c.cap ∧ numberAt r 7 3 = c.concCap ∧ numberAt r 10 2 = c.phLow ∧
    numberAt r 12 2 = c.phHigh ∧ numberAt r 14 3 = c.dayStart ∧ numberAt r 17 1 = c.silverPoint.val ∧
    numberAt r 18 1 = c.phPoint.val ∧ numberAt r 19 2 = c.lowPermille ∧ numberAt r 21 6 = c.start

/-- R94: the polarity, normal 1 and inverted 2. -/
def PolarityCoded (inverted : Bool) (code : Nat) : Prop := Coded [false, true] inverted code

/-- R94, and the ranges of R95; what a pin provides is a check of its own (`PinLacks`). -/
def SpellsPin (r : List Byte) (f : PinFn) : Prop :=
  match f with
  | .unused => numberAt r 0 1 = 1
  | .input inv d => numberAt r 0 1 = 2 ∧ PolarityCoded inv (numberAt r 3 1) ∧ numberAt r 5 1 = d
  | .output inv => numberAt r 0 1 = 3 ∧ PolarityCoded inv (numberAt r 3 1)
  | .counter q e c =>
    numberAt r 0 1 = 4 ∧ numberAt r 1 1 = q.val ∧ Coded [.rising, .falling, .both] e (numberAt r 4 1) ∧
      numberAt r 6 1 = c.toNat
  | .cellPwm e inv => numberAt r 0 1 = 5 ∧ numberAt r 2 1 = e.val ∧ PolarityCoded inv (numberAt r 3 1)
  | .analog => numberAt r 0 1 = 6

/-- R88: the kind and the argument of a condition; the argument of ALWAYS is ignored (log 32). -/
def CondCoded (c : Cond) (kind argument : Nat) : Prop :=
  match c with
  | .always => kind = 1
  | .tankNotReleasing t => kind = 2 ∧ argument = t.val
  | .streamActive i => kind = 3 ∧ argument = i.val
  | .cellRunning e => kind = 4 ∧ argument = e.val
  | .budgetAbove p => kind = 5 ∧ argument = p ∧ p ≤ 1000

/-- R88. -/
def SpellsInterlock (r : List Byte) (e : Interlock) : Prop :=
  e.max ≤ 1000 ∧ numberAt r 0 1 = 1 ∧ numberAt r 1 1 = e.node.val + 1 ∧ numberAt r 2 1 = e.channel.val ∧
    CondCoded e.cond (numberAt r 3 1) (numberAt r 4 2) ∧ numberAt r 6 2 = e.max

/-- R184. -/
def SpellsClass (r : List Byte) (c : Sys2Proof.Class) : Prop := numberAt r 0 1 = 1 ∧ numberAt r 1 1 = c.val

/-- R57; the bit rate is carried as a number (log 29). -/
def SpellsLine (r : List Byte) (c : LineParams) : Prop :=
  c.InRange ∧ numberAt r 0 1 = 1 ∧ numberAt r 1 3 = c.bitRate ∧ numberAt r 4 1 = c.window ∧
    numberAt r 5 1 = c.holdoff ∧ numberAt r 6 2 = c.silence

/-- R195, R205: how the records of a table are read. Every record of the table's length is NONE when its kind byte is 0, else the content
that it spells, else refused. -/
def ReadsRecords {α : Type} (t : Table) (length : List Byte → Nat) (body : List Byte → Body α)
    (Spells : List Byte → α → Prop) : Prop :=
  ∀ r, recordLength t r = length r ∧
    (r.length = length r →
      (numberAt r 0 1 = 0 → body r = .unload) ∧
      (∀ c, numberAt r 0 1 ≠ 0 → Spells r c → body r = .content c) ∧
      (numberAt r 0 1 ≠ 0 → (∀ c, ¬ Spells r c) → body r = .bad))

/-! ## The conditions that blocks read of one another, spelled out from their rules -/

/-- R172: the parts of the DRAIN-accepting condition, numbered in the order of its table. -/
def DrainPart (s : State) (k : Nat) : Prop :=
  match k with
  | 1 => s.disch.permit ≠ none
  | 2 => s.disch.clock ≠ none
  | 3 => s.port.fallback = false
  | 4 => s.port.safeHold = false
  | 5 => ∃ p, s.disch.permit = some p ∧ s.disch.consumed < p.cap
  | 6 => ∃ p, s.disch.permit = some p ∧ usable (s.point p.silverPoint) = true ∧
      (s.point p.silverPoint).value ≤ p.concCap
  | 7 => ∃ p, s.disch.permit = some p ∧ usable (s.point p.phPoint) = true ∧
      p.phLow ≤ (s.point p.phPoint).value ∧ (s.point p.phPoint).value ≤ p.phHigh
  | _ => True

/-- R172: the DRAIN-accepting condition. -/
def DrainOpen (s : State) : Prop := ∀ k, DrainPart s k

/-- R22, R134: a position of the chain is LEAD. -/
def HasLead (s : State) (k : ChainIx) : Prop := (s.chain k).posA.state = .lead ∨ (s.chain k).posB.state = .lead

/-- R22, R172: the destination accepts. -/
def Accepting (s : State) : Dest → Prop
  | .cell e => (s.cell e).cfg ≠ none ∧ (s.cell e).state = .run
  | .chain k => (s.chain k).cfg ≠ none ∧ HasLead s k
  | .tank t => ∃ c, (s.tank t).cfg = some c ∧ (s.tank t).state = .filling ∧ usable (s.point c.levelPoint) = true ∧
      (s.point c.levelPoint).value < c.high
  | .drain => DrainOpen s
  | .ret => True

/-- R89: the condition of an interlock entry holds. -/
def CondMet (s : State) : Cond → Prop
  | .always => True
  | .tankNotReleasing t => (s.tank t).cfg = none ∨ (s.tank t).state ≠ .releasing
  | .streamActive i => (s.stream i).cfg ≠ none ∧ ((s.stream i).state = .active ∨ (s.stream i).state = .diverted)
  | .cellRunning e => (s.cell e).cfg ≠ none ∧ (s.cell e).state = .run
  | .budgetAbove p => ∃ c, s.disch.permit = some c ∧ p * c.cap ≤ (c.cap - s.disch.consumed) * 1000

/-- R91: an interlock entry whose target is that node and channel. -/
def TargetedBy (s : State) (n : NodeIx) (c : Channel) (e : Interlock) : Prop :=
  (∃ i, s.interlock i = some e) ∧ e.node = n ∧ e.channel = c

/-- R91: the interlock check fails. -/
def Barred (s : State) (n : NodeIx) (c : Channel) : Prop := ∃ e, TargetedBy s n c e ∧ ¬ CondMet s e.cond

/-- R91: the interlock check passes the value `w` for `v`. -/
def PassesAs (s : State) (n : NodeIx) (c : Channel) (v w : Nat) : Prop :=
  ¬ Barred s n c ∧ w ≤ v ∧ (∀ e, TargetedBy s n c e → w ≤ e.max) ∧ (w = v ∨ ∃ e, TargetedBy s n c e ∧ w = e.max)

/-- R32: the point is loaded with that kind. -/
def OfKind (s : State) (p : PointIx) (k : PointKind) : Prop := ∃ c, (s.point p).cfg = some c ∧ c.kind = k

/-- R3, R109, R132, R147, R166: the point is loaded with another kind. -/
def WrongKind (s : State) (p : PointIx) (k : PointKind) : Prop := ∃ c, (s.point p).cfg = some c ∧ c.kind ≠ k

/-- R32: the point is loaded with source FIELD on that node and channel. -/
def OnField (s : State) (p : PointIx) (n : NodeIx) (ch : Channel) : Prop :=
  ∃ c, (s.point p).cfg = some c ∧ c.source = .field n ch

/-- R32: the point is loaded with source COUNTER on that counter, at that K-factor. -/
def OnCounter (s : State) (p : PointIx) (q : CounterIx) (k : Nat) : Prop :=
  ∃ c, (s.point p).cfg = some c ∧ c.source = .counter q k

/-- R32: the point is not loaded with source COUNTER. -/
def NoCounter (s : State) (p : PointIx) : Prop := ∀ q k, ¬ OnCounter s p q k

/-- R32: the point is loaded with source ANALOG on that pin. -/
def OnAnalog (s : State) (p : PointIx) (l : PinIx) : Prop := ∃ c, (s.point p).cfg = some c ∧ c.source = .analog l

/-- R32: the point is loaded with source SWITCH on that pin. -/
def OnSwitch (s : State) (p : PointIx) (l : PinIx) : Prop := ∃ c, (s.point p).cfg = some c ∧ c.source = .switch l

/-- R63: the scan entry is due. -/
def Due (s : State) (i : ScanIx) : Prop :=
  ∃ p period n ch, (s.scanEntry i).slot = some (p, period) ∧ OnField s p n ch ∧
    ((s.scanEntry i).since = none ∨ (s.scanEntry i).owed = true ∨
      ∃ t, (s.scanEntry i).since = some t ∧ (if (s.node n).state = .lost then max period 100 else period) ≤ t)

/-- R77: the loaded record names the actuator. -/
def Names (s : State) (o : Owner) (a : ActIx) : Prop :=
  match o with
  | .stream i => ∃ c, (s.stream i).cfg = some c ∧ c.route = a
  | .tank t => ∃ c, (s.tank t).cfg = some c ∧ (c.inlet.act = a ∨ c.drain.act = a ∨ c.rework.act = a)
  | .chain k => ∃ c, (s.chain k).cfg = some c ∧ c.order = a

/-- R4, R77: another loaded record names the actuator. -/
def OwnedElsewhere (s : State) (a : ActIx) (me : Owner) : Prop := ∃ o, o ≠ me ∧ Names s o a

/-- R4, R147: the loaded stream or tank names the point as its flow point. -/
def Meters (s : State) (o : Owner) (p : PointIx) : Prop :=
  match o with
  | .stream i => ∃ c, (s.stream i).cfg = some c ∧ c.flowPoint = p
  | .tank t => ∃ c, (s.tank t).cfg = some c ∧ c.outletPoint = p
  | .chain _ => False

/-- R4, R7, R147, R151: the point has source COUNTER and another loaded stream or tank names it as its flow point. -/
def FlowTaken (s : State) (p : PointIx) (me : Owner) : Prop :=
  (∃ q k, OnCounter s p q k) ∧ ∃ o, o ≠ me ∧ Meters s o p

/-- R75: an owner in service. -/
def InService (s : State) : Owner → Prop
  | .stream i => (s.stream i).state ≠ .offline
  | .tank t => (s.tank t).state ≠ .idle
  | .chain k => HasLead s k

/-- R75: the actuator's owner is in service. -/
def OwnerUses (s : State) (a : ActIx) : Prop := ∃ o, Names s o a ∧ InService s o

/-- R35: an object in service names the point. -/
def PointUsed (s : State) (p : PointIx) : Prop :=
  (∃ i c, (s.stream i).cfg = some c ∧ InService s (.stream i) ∧ (c.silverPoint = p ∨ c.flowPoint = p)) ∨
  (∃ e c, (s.cell e).cfg = some c ∧ (s.cell e).state ≠ .idle ∧ c.voltPoint = p) ∨
  (∃ k c, (s.chain k).cfg = some c ∧ InService s (.chain k) ∧ c.tail = some p) ∨
  (∃ t c, (s.tank t).cfg = some c ∧ InService s (.tank t) ∧
    (c.levelPoint = p ∨ c.silverPoint = p ∨ c.phPoint = p ∨ c.outletPoint = p)) ∨
  ∃ t c, (s.tank t).state = .releasing ∧ s.disch.permit = some c ∧ (c.silverPoint = p ∨ c.phPoint = p)

/-- R45: a point that an object in service names, names the curve. -/
def CurveUsed (s : State) (i : CurveIx) : Prop :=
  ∃ p c, PointUsed s p ∧ (s.point p).cfg = some c ∧ c.curve = some i

/-- R96: the pin is mapped COUNTER on the counter of a COUNTER point, or with the cascade flag on the even partner of that counter. -/
def FeedsPoint (s : State) (l : PinIx) (p : PointIx) : Prop :=
  ∃ q k r edge cascade, OnCounter s p q k ∧ (s.pin l).fn = .counter r edge cascade ∧
    (r = q ∨ (cascade = true ∧ r.val % 2 = 0 ∧ q.val = r.val + 1))

/-- R96: an object in service uses the pin, row by row of its table; the last line takes the rows of the PIN-bound actuators together. -/
def PinUsed (s : State) (l : PinIx) : Prop :=
  (∃ i c, (s.stream i).cfg = some c ∧ InService s (.stream i) ∧
    ((∃ p, (p = c.silverPoint ∨ p = c.flowPoint) ∧ (OnAnalog s p l ∨ OnSwitch s p l)) ∨ FeedsPoint s l c.flowPoint)) ∨
  (∃ e c, (s.cell e).cfg = some c ∧ (s.cell e).state ≠ .idle ∧
    ((c.pwmPin = l ∧ ∃ inv, (s.pin l).fn = .cellPwm e inv) ∨ OnAnalog s c.voltPoint l)) ∨
  (∃ k c p, (s.chain k).cfg = some c ∧ InService s (.chain k) ∧ c.tail = some p ∧ OnAnalog s p l) ∨
  (∃ t c, (s.tank t).cfg = some c ∧ InService s (.tank t) ∧
    ((∃ p, (p = c.levelPoint ∨ p = c.silverPoint ∨ p = c.phPoint ∨ p = c.outletPoint) ∧
        (OnAnalog s p l ∨ OnSwitch s p l)) ∨ FeedsPoint s l c.outletPoint)) ∨
  (∃ t c, (s.tank t).state = .releasing ∧ s.disch.permit = some c ∧
    (OnAnalog s c.silverPoint l ∨ OnAnalog s c.phPoint l)) ∨
  ∃ a safe, (s.actuator a).cfg = some { binding := .pin l, safe := safe } ∧ OwnerUses s a

/-- R94, R95: the pin does not provide the function, or the function is a cascade on an odd counter. -/
def PinLacks (p : PinIx) (f : PinFn) : Prop :=
  (∃ q edge cascade, f = .counter q edge cascade ∧ (8 ≤ p.val ∨ (cascade = true ∧ q.val % 2 = 1))) ∨
  (∃ e inv, f = .cellPwm e inv ∧ (p.val < 4 ∨ 8 ≤ p.val)) ∨ (f = .analog ∧ p.val < 8)

/-- R95: another pin has the counter, or the pair that the counter joins, or the cell. -/
def PinClashes (s : State) (p : PinIx) (f : PinFn) : Prop :=
  (∃ q edge cascade o r edge' cascade', f = .counter q edge cascade ∧ o ≠ p ∧
    (s.pin o).fn = .counter r edge' cascade' ∧
    (r = q ∨ (q.val % 2 = 1 ∧ cascade' = true ∧ q.val = r.val + 1) ∨ (cascade = true ∧ r.val = q.val + 1))) ∨
  ∃ e inv o inv', f = .cellPwm e inv ∧ o ≠ p ∧ (s.pin o).fn = .cellPwm e inv'

/-- R94, R95: the pin mapped COUNTER on `q`; were there two, the lower one. -/
def MappedOn (s : State) (l : PinIx) (q : CounterIx) (cascade : Bool) : Prop :=
  (∃ edge, (s.pin l).fn = .counter q edge cascade) ∧ ∀ m edge c, m < l → (s.pin m).fn ≠ .counter q edge c

/-- R100: the counter feeds the low half of a cascaded pair. -/
def Cascaded (s : State) (q : CounterIx) : Prop := ∃ l, MappedOn s l q true

/-- R42, R100: a pin is assigned to the counter, and it is not the odd partner of a cascaded pair. -/
def Mapped (s : State) (q : CounterIx) : Prop :=
  (∃ l c, MappedOn s l q c) ∧ ¬ (q.val % 2 = 1 ∧ ∃ r, Cascaded s r ∧ q.val = r.val + 1)

/-- R179: the actuator is the drain of the RELEASING tank. -/
def DrainsRelease (s : State) (a : ActIx) : Prop :=
  ∃ t c, releasingTank s = some t ∧ (s.tank t).cfg = some c ∧ c.drain.act = a

/-- R53, R203: the frame fails one of the seven conditions of a reply to the transaction: its length, its CRC-8, its address, its channel, its
kind, a value defined for that kind in each field, and for a CONFIRM the value sent. -/
def NoReply (x : Exchange) (frame : List Byte) : Prop :=
  frame.length ≠ 7 ∨
    ∃ address kind channel hi lo status crc : Byte, frame = [address, kind, channel, hi, lo, status, crc] ∧
      let value := 256 * hi.toNat + lo.toNat
      let poll := ∃ i p r, x.job = .poll i p r
      crc ≠ crc8 [address, kind, channel, hi, lo, status] ∨
      address.toNat ≠ nodeNumber x.node ∨
      channel.toNat ≠ x.channel.val ∨
      (poll ∧ kind ≠ 2 ∧ kind ≠ 6) ∨ (¬ poll ∧ kind ≠ 4 ∧ kind ≠ 5 ∧ kind ≠ 6) ∨
      (kind = 2 ∧ 1 < status.toNat) ∨ (kind = 4 ∧ (1000 < value ∨ status ≠ 0)) ∨
      (kind = 5 ∧ (value ≠ 0 ∨ status = 0 ∨ 3 < status.toNat)) ∨ (kind = 6 ∧ (value ≠ 0 ∨ status ≠ 0)) ∨
      (kind = 4 ∧ value ≠ x.value)

/-! ## What single rules leave, as claims say it -/

/-- The bytes of a plant frame from its length to its last body byte (R192, R204). -/
def coveredBytes (kind tag : Byte) (body : List Byte) : List Byte := be 1 (body.length + 2) ++ [kind, tag] ++ body

/-- R205: a layout: the size and the value of each field, in order. -/
def laidOut (fields : List (Nat × Nat)) : List Byte := fields.flatMap fun f => be f.1 f.2

/-- One bit of a CRC: the register moves up, and what leaves its top is divided by the polynomial. -/
def dividedBit {w : Nat} (polynomial r : BitVec w) : BitVec w := if r.msb then r <<< 1 ^^^ polynomial else r <<< 1

/-- R203: the bytes of a field frame. -/
def fieldLayout (address kind channel value status : Nat) : List Byte :=
  let covered := laidOut [(1, address), (1, kind), (1, channel), (2, value), (1, status)]
  covered ++ [crc8 covered]

/-- R204: a plant frame of a kind, a tag and a body. -/
def frameOf (kind tag : Byte) (body : List Byte) : List Byte :=
  90 :: coveredBytes kind tag body ++ be 2 (crc16 (coveredBytes kind tag body)).toNat

/-- R204: the kind byte of an outbound frame, with 128 added when the gap flag is set. -/
def outboundKind (kind : Nat) (gap : Bool) : Byte := BitVec.ofNat 8 (if gap then kind + 128 else kind)

/-- R204: the results, each at the place of its code. -/
def resultCodes : List Code :=
  [.ok, .clamped, .badTable, .badIndex, .badValue, .badBinding, .notLoaded, .busy, .conflict, .owned, .interlocked, .fallback,
    .held, .queueFull, .refused, .failed, .abandoned]

/-- R204: the body of a RESULT. -/
def resultLayout (r : ResultItem) : List Byte :=
  laidOut [(1, resultCodes.idxOf r.code), (1, r.part), (1, r.last.toNat)] ++ r.content

/-- 10.2: the report kinds of the class map, each at the place of its index. -/
def reportKinds : List ReportKind :=
  [.restarted, .streamFault, .cellFault, .effluentHigh, .budgetExhausted, .fallbackEntered, .nodeLost, .pointFailed,
    .actuatorFailed, .chainExhausted, .tankRework, .releaseStopped, .day, .nodeBack, .streamDiverted, .streamRestored,
    .harvestDue, .cartridgeSpent, .budgetLow, .fallbackLeft, .batch]

/-- 12.3: the object table and the object index of an alert. -/
def objectCode : AlertObject → Nat × Nat
  | .part => (0, 0)
  | .point p => (1, p.val)
  | .stream i => (4, i.val)
  | .actuator a => (5, a.val)
  | .cell e => (6, e.val)
  | .chain k => (7, k.val)
  | .tank t => (8, t.val)
  | .permit => (9, 0)
  | .node n => (14, n.val + 1)

/-- R205: the fields of a clock time. -/
def clockFields : Option ClockTime → List (Nat × Nat)
  | some c => [(2, c.day), (3, c.sec)]
  | none => [(2, 0), (3, 16777215)]

/-- 12.3: the fields of a batch record. -/
def batchLayout (b : Batch) : List (Nat × Nat) :=
  [(1, b.tank.val), (2, b.number), (4, b.volume), (3, b.conc), (2, b.phMin), (2, b.phMax), (6, b.estimate), (6, b.released),
    (6, b.fillMass), (1, [ReworkCause.none, .testFailed, .noPermit, .timeout, .overCap, .effluent].idxOf b.cause),
    (1, [BatchOutcome.pending, .released, .reworked].idxOf b.outcome + 1)]

/-- R204, 12.3: the frame kind of a queued report, and the fields of its body. -/
def reportLayout (e : Entry) : Nat × List (Nat × Nat) :=
  match e.report with
  | .alert kind object detail time =>
    (66, [(1, reportKinds.idxOf kind), (1, e.cls.val), (1, (objectCode object).1), (1, (objectCode object).2)] ++
      clockFields time ++ [(6, detail.getD 0 0), (6, detail.getD 1 0), (6, detail.getD 2 0), (6, detail.getD 3 0)])
  | .batch stage b time =>
    (67, [(1, [BatchStage.queued, .rework, .reworked, .released].idxOf stage + 1), (1, e.cls.val)] ++ batchLayout b ++
      clockFields time)
  | .day permitDay consumed cap released peak time =>
    (68, [(1, e.cls.val), (2, permitDay), (6, consumed), (6, cap), (2, released), (3, peak)] ++ clockFields time)
  | .mirror point value quality raw time =>
    (69, [(1, e.cls.val), (1, point.val), (3, value),
      (1, [Quality.none, .good, .limited, .stale, .failed].idxOf quality), (2, (raw % 65536).toNat)] ++ clockFields time)

/-- R197: the silence timer after a valid frame. -/
def freshSilence (s : State) : Option Nat :=
  if s.line.params.silence = 0 then none else some (s.line.params.silence * 1000)

/-- The rows that execute the request at the head of the queue. -/
def requestRows : List Instr :=
  [.otherKindRequest, .badTableRequest, .unknownCommandCode,
    .loadPoint, .loadCurve, .loadScan, .loadStream, .loadActuator, .loadCell, .loadChain, .loadTank, .loadPermit,
    .loadPinmap, .loadInterlock, .loadClassmap, .loadLine,
    .readPoint, .readCurve, .readScan, .readStream, .readActuator, .readInterlock, .readCell, .readChain, .readTank,
    .readPermit, .readPinmap, .readClassmap, .readLine,
    .startStream, .stopStream, .startCell, .harvestCell, .endHarvest, .clearCell, .installCartridge, .removeCartridge,
    .startTank, .stopTank, .closeFill, .setClock, .maskClass, .unmaskClass, .passSet, .allSafe, .resume, .keepalive,
    .resetPart]

/-- R196: the commands whose first argument is an index, with their rows and the numbers of indices. -/
def indexedCommands : List (Command × Instr × Nat) :=
  [(.startStream, .startStream, 16), (.stopStream, .stopStream, 16), (.startCell, .startCell, 4),
    (.harvestCell, .harvestCell, 4), (.endHarvest, .endHarvest, 4), (.clearCell, .clearCell, 4),
    (.installCartridge, .installCartridge, 4), (.removeCartridge, .removeCartridge, 4), (.startTank, .startTank, 4),
    (.stopTank, .stopTank, 4), (.closeFill, .closeFill, 4)]

/-- R64: the transaction in hand is the poll of entry `i`: the entry has now been rewritten. -/
def rewrittenHold (i : ScanIx) : Hold → Hold
  | .exchange x =>
    match x.job with
    | .poll j p r => .exchange (if i = j then { x with job := .poll j p true } else { x with job := .poll j p r })
    | .control a v => .exchange { x with job := .control a v }
    | .pass t c => .exchange { x with job := .pass t c }
  | .none => .none
  | .quiet => .quiet
  | .allSafeSending => .allSafeSending
  | .allSafeSettling => .allSafeSettling

/-- R76: the transaction in hand is the control set of `a`: it is now void. -/
def voidedHold (a : ActIx) : Hold → Hold
  | .exchange x =>
    match x.job with
    | .poll j p r => .exchange { x with job := .poll j p r }
    | .control b v => .exchange (if a = b then { x with job := .control b true } else { x with job := .control b v })
    | .pass t c => .exchange { x with job := .pass t c }
  | .none => .none
  | .quiet => .quiet
  | .allSafeSending => .allSafeSending
  | .allSafeSettling => .allSafeSettling

/-- R76, stage 1: the line after an actuator record is cleared of its previous content. -/
def clearedLine (s : State) (a : ActIx) : FieldLine :=
  { s.line with
    controlQ := if (s.actuator a).state = .pending then s.line.controlQ.filter (· ≠ a) else s.line.controlQ
    hold := voidedHold a s.line.hold }

/-- R80: a PIN-bound actuator whose desired value `v` has been taken by its pin. -/
def takenByPin (x : Actuator) (v : Nat) : Actuator :=
  { x with desired := v, confirmed := some v, state := .idle, retry := none }

/-- R80, R84: a PIN-bound actuator whose pin is not mapped OUTPUT. -/
def withoutPin (x : Actuator) (v : Nat) : Actuator :=
  { x with desired := v, state := .failed, reason := .unmapped, retry := some 5000 }

/-- The Report Queue after ACTUATOR_FAILED with reason UNMAPPED (R80, R84; log 12). -/
def unmappedReported (s : State) (a : ActIx) : ReportQueue :=
  s.reports.raise (.alert .actuatorFailed (.actuator a) [6] s.clock)

/-- R80: a PIN-bound actuator is applied with desired value `v`. -/
def appliedTo (s : State) (a : ActIx) (p : PinIx) (v : Nat) : State :=
  if isOutput (s.pin p).fn then
    (s.setPin p { s.pin p with drive := decide (v ≠ 0) }).setActuator a (takenByPin (s.actuator a) v)
  else { s.setActuator a (withoutPin (s.actuator a) v) with reports := unmappedReported s a }

/-- R119: the stream's credited destination is the cell. -/
def CreditedTo (e : CellIx) (x : Stream) : Prop :=
  ∃ c, x.cfg = some c ∧
    ((x.credited = .primary ∧ c.primary = .cell e) ∨ (x.credited = .divert ∧ c.divert = some (.cell e)))

/-- R119, R120, R124, R127: a cell that regulates or starts at inflow rate `rate` and fold-back level `fold`. -/
def drivenCell (c : CellCfg) (rate fold : Nat) (x : Cell) : Cell :=
  let target := max c.iMin (min (roundHalfUp (rate * c.factor) 1024) c.iMax)
  let eff := roundHalfUp (target * (8 - fold)) 8
  let charge := eff * c.interval * 1118 + x.platedResidue
  { x with
    fold := fold
    inflowRate := rate
    target := target
    effective := eff
    pendingDuty := min (roundHalfUp (eff * 1024) c.iFs) 1023
    regTimer := some (c.interval * 1000)
    plated := min (x.plated + charge / 1000) 281474976710655
    platedResidue := charge % 1000 }

/-- R127: the Report Queue after a plated estimate has gone from `before` to `after`. -/
def harvestReported (s : State) (e : CellIx) (c : CellCfg) (before after : Nat) : ReportQueue :=
  if c.threshold ≠ 0 ∧ before < c.threshold ∧ c.threshold ≤ after then
    s.reports.raise (.alert .harvestDue (.cell e) [after, c.threshold] s.clock)
  else s.reports

/-- R113: a cell that has left RUN. -/
def stoppedCell (st : CellState) (x : Cell) : Cell :=
  { x with state := st, regTimer := none, pendingDuty := 0, latchedDuty := 0, target := 0, effective := 0 }

/-- R140: the tail mass of volume `w` at tail concentration `ct` in a lag position. -/
def tailAdded (ct w : Nat) (p : Position) : Position :=
  { p with
    loading := min (p.loading + (ct * w + p.tailResidue) / 1000) 281474976710655
    tailResidue := (ct * w + p.tailResidue) % 1000 }

/-- R139 parts 1 and 2, R140: a chain at its metering; `ct` is the tail concentration of a usable tail point. -/
def tailMetered (ct : Option Nat) (x : Chain) : Chain :=
  match ct with
  | none => { x with volume := 0, metering := some 1000 }
  | some t =>
    if x.posA.state = .lag then { x with volume := 0, metering := some 1000, posA := tailAdded t x.volume x.posA }
    else if x.posB.state = .lag then { x with volume := 0, metering := some 1000, posB := tailAdded t x.volume x.posB }
    else
      { x with
        volume := 0
        metering := some 1000
        passed := min (x.passed + (t * x.volume + x.passedResidue) / 1000) 281474976710655
        passedResidue := (t * x.volume + x.passedResidue) % 1000 }

/-- R141: the breakthrough run after a metering. -/
def runAfterMetering (c : ChainCfg) (ct : Option Nat) (run : Nat) : Nat :=
  match ct with
  | some t => if c.limit < t then min (run + 1) 255 else 0
  | none => if c.tail = none then 0 else run

/-- R59: the node's health and the line after a transaction to node `n` that ended with a reply taken; `kind` is POLL 1, SET 2. -/
def afterReply (n : NodeIx) (kind : Nat) (s : State) : State :=
  { s with
    line :=
      { s.line with hold := .none, nodes := s.line.nodes.set n { s.node n with state := .online, count := 0 } }
    reports :=
      if (s.node n).state = .lost then s.reports.raise (.alert .nodeBack (.node n) [kind] s.clock) else s.reports }

/-- R40: the points that raise POINT_FAILED when node `n` is set LOST. -/
def newlyLost (s : State) (n : NodeIx) : List PointIx :=
  (List.finRange 32).filter fun p => onNode n (s.point p) && (s.point p).quality ≠ .failed

/-- R40, R60: the node's health, its points and the line after a transaction to node `n` that failed. -/
def afterFailure (n : NodeIx) (reason : FailReason) (s : State) : State :=
  let h := s.node n
  let line (x : NodeHealth) : FieldLine := { s.line with hold := .none, nodes := s.line.nodes.set n x }
  if h.state = .lost then { s with line := line { h with reason := some reason } }
  else if h.count < 2 then { s with line := line { state := .suspect, count := h.count + 1, reason := some reason } }
  else
    { s with
      line := line { state := .lost, count := 3, reason := some reason }
      points := s.points.map fun x => if onNode n x then { x with quality := .failed } else x
      reports :=
        (newlyLost s n).foldl (fun q p => q.raise (.alert .pointFailed (.point p) [2] s.clock))
          (s.reports.raise (.alert .nodeLost (.node n) [failReasonCode reason] s.clock)) }

/-- R82: an actuator after its set, which carried `v`, was refused or failed. -/
def afterRefusal (a : ActIx) (st : ActState) (reason : ActReason) (v : Nat) (s : State) : State :=
  let x := { s.actuator a with reason := reason }
  let s := { s with reports := s.reports.raise (.alert .actuatorFailed (.actuator a) [actReasonCode reason, v] s.clock) }
  if x.desired = v then s.setActuator a { x with state := st, retry := some 5000 }
  else if x.confirmed = some x.desired then s.setActuator a { x with state := .idle, retry := none }
  else
    { s.setActuator a { x with state := .pending, retry := none } with
      line := { s.line with controlQ := s.line.controlQ ++ [a] } }

/-- R64: a polled entry takes its last outcome, unless it was rewritten since the poll started. -/
def withOutcome (i : ScanIx) (rewritten : Bool) (o : ScanOutcome) (s : State) : State :=
  if rewritten then s else s.setScanEntry i { s.scanEntry i with last := o }

/-- R72: what an abandoned transaction leaves, by its kind. -/
def afterAbandon (x : Exchange) (s : State) : State :=
  match x.job with
  | .poll i _ rewritten =>
    if rewritten then s else s.setScanEntry i { s.scanEntry i with owed := true, last := .abandoned }
  | .control a void =>
    if void then s
    else
      { s.setActuator a { s.actuator a with state := .pending } with
        line := { s.line with controlQ := a :: s.line.controlQ } }
  | .pass tag _ =>
    { s with port := { s.port with results := s.port.results ++ [passResultOf tag .abandoned []] } }

/-- R69, R71, R72: an ALL-SAFE has been raised; a transaction in hand is abandoned unless its request frame is being transmitted, and an
open reply window keeps the line quiet. -/
def afterRaise (s : State) : State :=
  let abandoned (x : Exchange) (h : Hold) : State :=
    { afterAbandon x s with line := { (afterAbandon x s).line with allSafePending := true, hold := h } }
  match s.line.hold with
  | .exchange x =>
    match x.phase with
    | .sending => { s with line := { s.line with allSafePending := true } }
    | .window => abandoned x .quiet
    | .holdoff => abandoned x .none
    | .resend => abandoned x .none
  | _ => { s with line := { s.line with allSafePending := true } }

/-- R57, R64, R65: a transaction that starts now. -/
def freshExchange (s : State) (job : Job) (n : NodeIx) (ch : Channel) (v : Nat) : Hold :=
  .exchange
    { job, node := n, channel := ch, value := v, phase := .sending, holdoffs := 0, silents := 0, params := s.line.params }

/-- R67: entry `i` is the due entry with the lowest number. -/
def FirstDue (s : State) (i : ScanIx) : Prop := Due s i ∧ ∀ j, j < i → ¬ Due s j

/-- R68: the set-run count at the start of a SET. -/
def SetRunAfterSet (s : State) (run : Nat) : Prop :=
  ((∃ i, Due s i) → run = min (s.line.setRun + 1) 4) ∧ ((∀ i, ¬ Due s i) → run = 0)

/-- R68: no due poll goes ahead of the set queues. -/
def SetsFirst (s : State) : Prop := s.line.setRun < 4 ∨ ∀ i, ¬ Due s i

/-- R26: the stream's request of a wanted position. -/
def wantPosition (c : StreamCfg) (v : Nat) (s : State) : State :=
  if (s.actuator c.route).desired = v then s else ownerRequest c.route v s

/-- R158: the batch record at the decision. -/
def decidedBatch (level capacity : Nat) (b : Batch) : Batch :=
  let v := roundHalfUp (level * capacity) 1000
  { b with volume := v, estimate := roundUp (b.conc * v) 1000 }

/-- R156: a tank that has gone to TESTING, before its valves are requested. -/
def testingTank (c : TankCfg) (x : Tank) : Tank :=
  { x with
    state := .testing, silverSamples := 0, phSamples := 0, deferred := false, dwell := none
    test := some (c.timeout * 1000) }

/-- R149, R155: a tank whose fill has closed, but for its state and its timers. -/
def closedTank (t : TankIx) (x : Tank) : Tank :=
  let n := (x.batchNo + 1) % 65536
  { x with
    batchNo := n
    batch := some { tank := t, number := n, volume := min x.fillVol 4000000000, fillMass := x.fillMass }
    fillMass := 0, fillVol := 0, outVolResidue := 0, outMassResidue := 0 }

/-- R179: the figures of RELEASE_STOPPED: the cause by its place in the table of R179, the batch number, the remaining estimate (log 13). -/
def stopFigures (cause : Nat) (x : Tank) : List Nat :=
  match x.batch with
  | some b => [cause, b.number, b.estimate - b.released]
  | none => [cause, 0, 0]

/-- R150, R179: the release of tank `t` has stopped for a cause other than EFFLUENT. -/
def afterStop (t : TankIx) (cause : Nat) (s : State) : State :=
  let moved := tankRequest t
    { s.setTank t { s.tank t with state := .queued } with disch := { s.disch with queue := t :: s.disch.queue } }
  { moved with
    reports := moved.reports.raise (.alert .releaseStopped (.tank t) (stopFigures cause (s.tank t)) s.clock) }

/-- R85: one actuator at entry into SAFE-HOLD. -/
def safeApplied (s : State) (a : ActIx) : State :=
  match (s.actuator a).cfg with
  | none => s
  | some { binding := .pin p, safe } => appliedTo s a p safe
  | some { binding := .field .., safe } =>
    let x := { s.actuator a with desired := safe }
    if x.confirmed = some safe ∧ x.state = .pending then
      { s.setActuator a { x with state := .idle } with
        line := { s.line with controlQ := s.line.controlQ.filter (· ≠ a) } }
    else if x.confirmed = some safe ∧ (x.state = .refused ∨ x.state = .failed) then
      s.setActuator a { x with state := .idle, retry := none }
    else s.setActuator a x

/-- R42: a COUNTER point that has taken the value of `n` pulses at K-factor `k`, rounded half up. -/
def counted (n k : Nat) (x : Point) : Point :=
  let v := (2 * (n * k) + 100) / 200
  { x with
    value := min v 16777215
    quality := if v ≤ 16777215 then .good else .limited
    age := 0
    lastRaw := n }

/-! ## Invariants -/

/-- R186: the alert keys of the queue's entries, in age order. -/
def alertKeys (q : ReportQueue) : List (ReportKind × AlertObject) := q.entries.filterMap fun e => alertKey e.report

/-- R186: at most 32 reports, and never two ALERTs of the same kind for the same object. -/
def ReportsInv (s : State) : Prop := s.reports.entries.length ≤ 32 ∧ (alertKeys s.reports).Nodup

/-- R193: at most four requests wait, and at most four QUEUE_FULL answers. -/
def RequestsInv (s : State) : Prop := s.port.requests.length ≤ 4 ∧ fullAnswers s ≤ 4

/-- R66: the pass-through queue holds at most four entries, and none while FALLBACK or SAFE-HOLD holds. -/
def PassInv (s : State) : Prop :=
  s.line.passQ.length ≤ 4 ∧ (s.port.fallback = true ∨ s.port.safeHold = true → s.line.passQ = [])

/-- The actuator is loaded with a FIELD binding. -/
def FieldBound (x : Actuator) : Prop := ∃ n c safe, x.cfg = some { binding := .field n c, safe := safe }

/-- R65: the control set queue holds each actuator at most once and only PENDING ones; a control set that has not been marked void
belongs to an actuator IN_FLIGHT. -/
def ControlInv (s : State) : Prop :=
  s.line.controlQ.Nodup ∧ (∀ a ∈ s.line.controlQ, (s.actuator a).state = .pending ∧ FieldBound (s.actuator a)) ∧
    ∀ x a, s.line.hold = .exchange x → x.job = .control a false →
      (s.actuator a).state = .inFlight ∧ FieldBound (s.actuator a)

/-- R58, R60: the count of a node's health record belongs to its state. -/
def nodeInv (h : NodeHealth) : Prop :=
  match h.state with
  | .unknown => h.count = 0
  | .online => h.count = 0
  | .suspect => h.count = 1 ∨ h.count = 2
  | .lost => h.count = 3

/-- R54, R55: the two counts of the transaction in hand. -/
def holdInv : Hold → Prop
  | .exchange x => x.holdoffs ≤ 3 ∧ x.silents ≤ 1
  | .none => True
  | .quiet => True
  | .allSafeSending => True
  | .allSafeSettling => True

/-- R54, R55, R58, R60, R68: the counts of the field line stay in their ranges. -/
def LineInv (s : State) : Prop := s.line.setRun ≤ 4 ∧ holdInv s.line.hold ∧ ∀ n, nodeInv (s.node n)

/-- R110, R111: the duty of a cell that is not RUN is 0, and the fold-back level and the counts stay in their ranges. -/
def cellInv (x : Cell) : Prop :=
  (x.state ≠ .run → x.pendingDuty = 0 ∧ x.latchedDuty = 0) ∧ x.fold ≤ 6 ∧ x.high ≤ 10 ∧ x.miss ≤ 3 ∧
    (x.state = .run → x.high < 10 ∧ x.miss < 3)

def CellsInv (s : State) : Prop := ∀ e, cellInv (s.cell e)

/-- R134: at most one LEAD, and a LAG only behind a LEAD. -/
def chainInv (x : Chain) : Prop :=
  ¬ (x.posA.state = .lead ∧ x.posB.state = .lead) ∧ (x.posA.state = .lag → x.posB.state = .lead) ∧
    (x.posB.state = .lag → x.posA.state = .lead)

def ChainsInv (s : State) : Prop := ∀ k, chainInv (s.chain k)

/-- R15, R13: the residues of a stream. -/
def streamResidues (x : Stream) : Prop := x.massResidue ≤ 999 ∧ x.volResidue ≤ 99

/-- R161: the outflow residues of a tank. -/
def tankResidues (x : Tank) : Prop := x.outVolResidue ≤ 99 ∧ x.outMassResidue ≤ 999

/-- R133, R140: the residues of a chain. -/
def chainResidues (x : Chain) : Prop :=
  x.posA.tailResidue ≤ 999 ∧ x.posB.tailResidue ≤ 999 ∧ x.passedResidue ≤ 999

/-- R13, R15, R127, R140, R161: every residue stays below its divisor. -/
def ResiduesInv (s : State) : Prop :=
  (∀ i, streamResidues (s.stream i)) ∧ (∀ t, tankResidues (s.tank t)) ∧ (∀ k, chainResidues (s.chain k)) ∧
    ∀ e, (s.cell e).platedResidue ≤ 999

/-- R16: the totals of a stream. -/
def streamSums (x : Stream) : Prop := x.mass ≤ Config.max48 ∧ x.volume ≤ Config.max48

/-- R148: the fill sums of a tank. -/
def tankSums (x : Tank) : Prop := x.fillMass ≤ Config.max48 ∧ x.fillVol ≤ Config.max48

/-- R133: the masses of a chain and its volume since metering. -/
def chainSums (x : Chain) : Prop :=
  x.posA.loading ≤ Config.max48 ∧ x.posB.loading ≤ Config.max48 ∧ x.unplaced ≤ Config.max48 ∧
    x.passed ≤ Config.max48 ∧ x.volume ≤ Config.max32

/-- R126, R127: the plated estimate and the inflow total of a cell. -/
def cellSums (x : Cell) : Prop := x.plated ≤ Config.max48 ∧ x.inflow ≤ Config.max48

/-- R21: the sums of a plant-wide account. -/
def accountSums (a : Account) : Prop := a.mass ≤ Config.max48 ∧ a.volume ≤ Config.max48

/-- R16, R21, R126, R127, R133, R148, R170: every sum stays within its width. -/
def SumsInv (s : State) : Prop :=
  (∀ i, streamSums (s.stream i)) ∧ (∀ t, tankSums (s.tank t)) ∧ (∀ k, chainSums (s.chain k)) ∧
    (∀ e, cellSums (s.cell e)) ∧ accountSums s.accounts.unrouted ∧ accountSums s.accounts.ret ∧
    s.disch.consumed ≤ Config.max48

/-- R174: the release queue holds distinct tanks in state QUEUED, and at most one tank is RELEASING. -/
def ReleaseInv (s : State) : Prop :=
  s.disch.queue.Nodup ∧ (∀ t ∈ s.disch.queue, (s.tank t).state = .queued) ∧
    ∀ t u, (s.tank t).state = .releasing → (s.tank u).state = .releasing → t = u

end Sys2Proof.Machine
end

