-- ==== Sys2Proof/Certificates/Slice0/Obligations.lean ====
section
/-! DEFINITION. The statements for the provers, from the spec's numbered rules. Each docstring names the rule a statement formalises, or says
that it is the model's own. Unless a statement says otherwise, equality of whole states states the frame as well. -/

open Sys2Proof Sys2Proof.Machine

/-! ## The machine -/

/-- The model's step (the task's interface): the command at the front of the queue acts on the part with the queue's rest. -/
def Obligations.StepRunsFrontCommand : Prop :=
  ∀ (c : Instr) (rest : List Instr) (s : State), s.pending = c :: rest → step s = exec c { s with pending := rest }

/-- Log 3, the model's choice: on an empty queue one millisecond passes; every running timer counts down and nothing else
changes; during a reset nothing changes. -/
def Obligations.QuietTimeOnEmptyQueue : Prop :=
  ∀ s : State, s.pending = [] →
    (s.inReset = true → step s = .next s) ∧
    (s.inReset = false → ∃ t, step s = .next t ∧
      t = { s with port := t.port, actuators := t.actuators, pins := t.pins, cells := t.cells, chains := t.chains,
                   tanks := t.tanks, timers := t.timers } ∧
      t.port = { s.port with silence := s.port.silence.map (· - 1) } ∧
      (∀ a, t.actuator a = { s.actuator a with retry := (s.actuator a).retry.map (· - 1) }) ∧
      (∀ p, t.pin p = { s.pin p with debounce := (s.pin p).debounce.map (· - 1) }) ∧
      (∀ e, t.cell e = { s.cell e with regTimer := (s.cell e).regTimer.map (· - 1) }) ∧
      (∀ k, t.chain k = { s.chain k with metering := (s.chain k).metering.map (· - 1) }) ∧
      (∀ k, t.tank k =
        { s.tank k with
          dwell := (s.tank k).dwell.map (· - 1)
          test := (s.tank k).test.map (· - 1)
          metering := (s.tank k).metering.map (· - 1) }) ∧
      t.timers =
        { account := s.timers.account - 1, age := s.timers.age - 1, sampling := s.timers.sampling - 1,
          scan := s.timers.scan - 1, discharge := s.timers.discharge - 1 })

/-- The part has no fault that stops it, and no command touches the queue of waiting commands. -/
def Obligations.CommandsAnswerAndLeaveTheQueue : Prop :=
  ∀ (c : Instr) (s : State), ∃ t, exec c s = .next t ∧ t.pending = s.pending

/-! ## Resets -/

/-- R31, R50, R74, R93, R107, R130, R145, R165, R182, R190, R202: what the end of a reset leaves, by its cause. That overlapping
resets end together, and that the straps and pin levels are inputs, is the model's reading (logs 6, 7, 9). -/
def Obligations.ResetEndLeavesTheResetState : Prop :=
  ∀ (s : State) (hi lo : Bool),
    (s.port.powerReset = true → s.port.pinReset = false → s.port.powerSeen = true →
      exec (.powerResetEnd hi lo) s = .next (afterReset .power hi lo (rateOf hi lo) s)) ∧
    (s.port.pinReset = true → s.port.powerReset = false → s.port.powerSeen = false →
      exec (.resetPinReleased hi lo) s = .next (afterReset .pin hi lo (rateOf hi lo) s)) ∧
    (s.port.pinReset = true → s.port.powerReset = false → s.port.powerSeen = true →
      exec (.resetPinReleased hi lo) s = .next (afterReset .power hi lo (rateOf hi lo) s)) ∧
    (s.port.powerReset = true → s.port.pinReset = true →
      exec (.powerResetEnd hi lo) s = .next { s with port := { s.port with powerReset := false } } ∧
      exec (.resetPinReleased hi lo) s = .next { s with port := { s.port with pinReset := false } }) ∧
    (∀ f, s.inReset = false → s.port.tx = some f → f.resetOk = true →
      exec .plantFrameSent s = .next (afterReset .command s.port.strapHi s.port.strapLo s.port.rate s))

/-- Log 10, the model's reading of R202: a POWER or PIN reset cuts everything off at its beginning, and until it ends only the
rows of the resets and of the pin levels act. -/
def Obligations.ResetsCutOffAllActivity : Prop :=
  (∀ s : State,
    exec .powerReset s = .next (cutOff true s.port.pinReset true s) ∧
    exec .resetPinAsserted s = .next (cutOff s.port.powerReset true s.port.powerSeen s)) ∧
  ∀ (c : Instr) (s : State), s.inReset = true → actsInReset c = false → exec c s = .next s

/-- R31, R50, R74, R93, R107, R130, R145, R165, R182, R190, R202: the reset values that the spec gives; and the reset state meets every
invariant that the steps keep. That the reset state is the end of a POWER reset (cause POWER, RESTARTED coded 1) is the model's
reading (log 8). -/
def Obligations.ResetStateHoldsTheSpecValues : Prop :=
  (∀ i, State.reset.stream i = {}) ∧ State.reset.accounts = {} ∧ (∀ p, State.reset.point p = {}) ∧
  (∀ c, State.reset.curve c = []) ∧ (∀ a, State.reset.actuator a = {}) ∧ (∀ i, State.reset.interlock i = none) ∧
  (∀ p, (State.reset.pin p).fn = .unused) ∧ (∀ q, State.reset.counter q = 0) ∧ (∀ e, State.reset.cell e = {}) ∧
  (∀ k, State.reset.chain k = {}) ∧ (∀ t, State.reset.tank t = {}) ∧ State.reset.disch = {} ∧
  State.reset.line.params = { bitRate := 57600, window := 20, holdoff := 20, silence := 60 } ∧
  (∀ n, State.reset.node n = {}) ∧ (∀ i, State.reset.scanEntry i = {}) ∧ State.reset.line.controlQ = [] ∧
  State.reset.line.passQ = [] ∧ State.reset.line.setRun = 0 ∧ State.reset.line.allSafePending = true ∧
  State.reset.line.hold = .none ∧ State.reset.reports = restartedQueue 1 ∧ State.reset.port.requests = [] ∧
  State.reset.port.results = [] ∧ State.reset.port.holding = false ∧ State.reset.port.rx = none ∧
  State.reset.port.silence = none ∧ State.reset.port.fallback = false ∧ State.reset.port.safeHold = false ∧
  State.reset.port.cause = .power ∧
  ReportsInv State.reset ∧ RequestsInv State.reset ∧ PassInv State.reset ∧ ControlInv State.reset ∧ LineInv State.reset ∧
    CellsInv State.reset ∧ ChainsInv State.reset ∧ ResiduesInv State.reset ∧ SumsInv State.reset ∧ ReleaseInv State.reset

/-! ## The plant line -/

/-- R192, R193, R204: every frame of the layout of 12.2, heard whole on a waiting receive path, restarts the silence timer and
is taken as the request it spells: queued, answered QUEUE_FULL, or discarded. -/
def Obligations.EveryValidFrameIsTakenAsItsRequest : Prop :=
  ∀ (s : State) (kind tag : Byte) (body : List Byte), s.inReset = false → s.port.rx = none → body.length ≤ 240 →
    let frame := 90 :: coveredBytes kind tag body ++ be 2 (crc16 (coveredBytes kind tag body)).toNat
    let port := { s.port with silence := freshSilence s }
    (s.port.requests.length < 4 →
      exec (.plantFrameReceived frame) s =
        .next { s with port := { port with requests := port.requests ++ [{ kind := kind, tag := tag, body := body }] } }) ∧
    (4 ≤ s.port.requests.length → fullAnswers s < 4 →
      exec (.plantFrameReceived frame) s =
        .next { s with port := { port with results := port.results ++
          [{ tag := tag, code := .queueFull, part := 0, last := true, content := [], origin := .queueFull }] } }) ∧
    (4 ≤ s.port.requests.length → 4 ≤ fullAnswers s →
      exec (.plantFrameReceived frame) s = .next { s with port := port })

/-- R192: a frame with a wrong CRC, a length outside 2 to 242, a byte that is no start byte, and a gap inside a frame are
discarded without answer and without a restart of the silence timer. That the row carries whatever bytes were heard, a lone byte or a
cut-off frame among them, is the model's reading (log 31). -/
def Obligations.BrokenFramesAreDiscarded : Prop :=
  ∀ s : State, s.inReset = false →
    (∀ (kind tag c1 c2 : Byte) (body : List Byte), s.port.rx = none → body.length ≤ 240 →
      [c1, c2] ≠ be 2 (crc16 (coveredBytes kind tag body)).toNat →
      exec (.plantFrameReceived (90 :: coveredBytes kind tag body ++ [c1, c2])) s = .next s) ∧
    (∀ n : Byte, s.port.rx = none → n.toNat < 2 ∨ 242 < n.toNat →
      exec (.plantFrameReceived [90, n]) s = .next s) ∧
    (∀ b : Byte, s.port.rx = none → b ≠ 90 → exec (.plantFrameReceived [b]) s = .next s) ∧
    exec .plantFrameGapTimeout s = .next { s with port := { s.port with rx := none } }

/-- R188, R194, R204: on a free transmit path the first RESULT starts, else the oldest entry of the lowest-numbered unmasked class
that holds any, else nothing; the frame takes the gap flag, which is cleared. A busy path starts nothing, and a frame that has been
sent frees it. R204, R205: the frames are spelled out byte by byte: start byte, length, kind with 128 for the gap flag, tag, the body of
12.2 or 12.3 (33 bytes of an ALERT, 41 of a BATCH, 25 of a DAY, 13 of a MIRROR) and the CRC-16, whose check value is 10,673. -/
def Obligations.TransmitPathChoosesByUrgency : Prop :=
  (∀ s : State, s.inReset = false → s.port.tx = none →
    (∀ r rest, s.port.results = r :: rest →
      exec .transmitNextFrame s =
        .next { s with
          port :=
            { s.port with
              results := rest
              holding := s.port.holding && !(r.last && decide (r.origin = .executed ∨ r.origin = .resetOk))
              tx := some { bytes := frameOf (outboundKind 65 s.reports.gap) r.tag (resultLayout r),
                           resetOk := decide (r.origin = .resetOk) } }
          reports := { s.reports with gap := false } }) ∧
    (∀ older e younger, s.port.results = [] → s.reports.entries = older ++ e :: younger →
      (∀ x ∈ older, x.cls ≠ e.cls) → s.reports.masks[e.cls] = false →
      (∀ x ∈ s.reports.entries, x.cls < e.cls → s.reports.masks[x.cls] = true) →
      let layout := reportLayout e
      exec .transmitNextFrame s =
        .next { s with
          port :=
            { s.port with
              tx := some { bytes := frameOf (outboundKind layout.1 s.reports.gap) 0 (laidOut layout.2), resetOk := false } }
          reports := { s.reports with entries := older ++ younger, gap := false } }) ∧
    (s.port.results = [] → (∀ x ∈ s.reports.entries, s.reports.masks[x.cls] = true) →
      exec .transmitNextFrame s = .next s)) ∧
  (∀ (s : State) (f : TxFrame), s.inReset = false → s.port.tx = some f →
    (f.resetOk = false → exec .plantFrameSent s = .next { s with port := { s.port with tx := none } }) ∧
    exec .transmitNextFrame s = .next s) ∧
  (∀ e : Entry, ((reportLayout e).1, (laidOut (reportLayout e).2).length) ∈ [(66, 33), (67, 41), (68, 25), (69, 13)]) ∧
  (∀ n x : Nat, (be n x).length = n ∧ ∀ k, k < n → (be n x)[k]? = some (BitVec.ofNat 8 (x / 256 ^ (n - 1 - k)))) ∧
  (∀ (bytes : List Byte) (b : Byte),
    crc16 (bytes ++ [b]) = (dividedBit 0x1021)^[8] (crc16 bytes ^^^ (b.setWidth 16 <<< 8))) ∧
  crc16 [] = 65535 ∧ crc16 [49, 50, 51, 52, 53, 54, 55, 56, 57] = 10673

/-- R197, R198, R66, R179: the silence timer stops at its expiry. A part not in FALLBACK enters it: the pass-through queue empties with
results FALLBACK, FALLBACK_ENTERED carries the silence timeout, and then a release stops at the head of the release queue with
RELEASE_STOPPED (cause FALLBACK, coded 4 by log 13). -/
def Obligations.SilenceExpiryEntersFallback : Prop :=
  ∀ (s : State) (n : Nat), s.inReset = false → s.port.silence = some n →
    (s.port.fallback = true →
      exec .silenceTimerExpiry s = .next { s with port := { s.port with silence := none } }) ∧
    (s.port.fallback = false →
      let entered := { s with
        port :=
          { s.port with
            silence := none
            fallback := true
            results := s.port.results ++ s.line.passQ.map fun e => passResultOf e.tag .fallback [] }
        line := { s.line with passQ := [] }
        reports := s.reports.raise (.alert .fallbackEntered .part [s.line.params.silence] s.clock) }
      (releasingTank s = none → exec .silenceTimerExpiry s = .next entered) ∧
      ∀ k, releasingTank s = some k → exec .silenceTimerExpiry s = .next (afterStop k 4 entered))

/-! ## The Plant Port's own answers -/

/-- R192, R194, R195, R196: the Plant Port's own answers. A LOAD whose index is outside its table is BAD_INDEX, one whose record has the wrong
length BAD_VALUE; a COMMAND whose index is outside its table is BAD_INDEX (its layout by logs 4 and 5); a request of another kind, a
COMMAND of no known code and one of a known code whose arguments are of the wrong length (log 5) are BAD_VALUE, a LOAD or READ of no
table BAD_TABLE; nothing else changes. R204: the codes of the tables; that the commands are coded by their place in R196 is log 4.
While the port holds, after RESET_PART's OK and on an empty queue no row executes a request (log 1). -/
def Obligations.PlantPortChecksRequests : Prop :=
  ([.point, .curve, .scan, .stream, .actuator, .cell, .chain, .tank, .permit, .pinmap, .interlock, .classmap, .line].map tableCode =
    [1, 2, 3, 4, 5, 6, 7, 8, 9, 10, 11, 12, 13]) ∧
  ([.startStream, .stopStream, .startCell, .harvestCell, .endHarvest, .clearCell, .installCartridge, .removeCartridge, .startTank,
      .stopTank, .closeFill, .setClock, .maskClass, .unmaskClass, .passSet, .allSafe, .resume, .keepalive, .resetPart].map
      (fun c => (commandCode c, argLength c)) = commandLengths) ∧
  (∀ (t : Table) (i : Nat) (record : List Byte) (tag : Byte) (rest : List Request) (s : State),
    i < 256 → Executing s (loadOf t i record tag) rest →
      (tableSize t ≤ i → RefusedWith (loadRow t) s rest tag .badIndex) ∧
      (i < tableSize t → record.length ≠ recordLength t record → RefusedWith (loadRow t) s rest tag .badValue)) ∧
  (∀ (cmd : Command) (row : Instr) (n : Nat) (i : Byte) (more : List Byte) (tag : Byte) (rest : List Request) (s : State),
    (cmd, row, n) ∈ indexedCommands → more.length + 1 = argLength cmd → n ≤ i.toNat →
      Executing s (commandOf cmd (i :: more) tag) rest → RefusedWith row s rest tag .badIndex) ∧
  (∀ (r : Request) (rest : List Request) (s : State), Executing s r rest →
    (r.kind ≠ 1 → r.kind ≠ 2 → r.kind ≠ 3 → RefusedWith .otherKindRequest s rest r.tag .badValue) ∧
    (∀ code tail, r.kind = 1 ∨ r.kind = 2 → r.body = code :: tail → code = 0 ∨ 13 < code.toNat →
      RefusedWith .badTableRequest s rest r.tag .badTable) ∧
    (∀ code tail, r.kind = 3 → r.body = code :: tail → code = 0 ∨ 19 < code.toNat →
      RefusedWith .unknownCommandCode s rest r.tag .badValue) ∧
    (∀ (code : Byte) (args : List Byte) (length : Nat), r.kind = 3 → r.body = code :: args →
      (code.toNat, length) ∈ commandLengths → args.length ≠ length →
      RefusedWith .unknownCommandCode s rest r.tag .badValue)) ∧
  ∀ (c : Instr) (s : State), c ∈ requestRows →
    s.port.holding = true ∨ s.port.ended = true ∨ s.port.requests = [] → exec c s = .next s

/-! ## Requests in general -/

/-- R195, R205, R194: every READ answers the block's content in parts of at most 237 bytes, numbered from 0 with the last one marked, and
changes nothing but the port; an index outside the table is BAD_INDEX. R49, R62, R30, R93, R129, R144, R165, R181, R107, R184, R57: the
content says whether the record is loaded, then gives its loaded fields in the bytes that `PlantRecordsAreReadAsCoded` and
`ControlRecordsAreReadAsCoded` read back, then the further items in the order of the table's READ rule, the enumerated ones by their codes.
The layouts carry logs 13 to 20,
28 and 30. -/
def Obligations.ReadsAnswerTheContentInParts : Prop :=
  (∀ (t : Table) (i : Nat) (tag : Byte) (rest : List Request) (s : State), i < 256 → Executing s (readOf t i tag) rest →
    (tableSize t ≤ i → RefusedWith (readRow t) s rest tag .badIndex) ∧
    (i < tableSize t →
      ∃ parts : List ResultItem,
        exec (readRow t) s =
          .next { s with port := { s.port with requests := rest, results := s.port.results ++ parts, holding := true } } ∧
        parts ≠ [] ∧ parts.flatMap (·.content) = readContent t s i ∧
        ∀ (k : Nat) (r : ResultItem), parts[k]? = some r →
          r = { tag := tag, code := .ok, part := k, last := decide (k + 1 = parts.length), content := r.content,
                origin := .executed } ∧
          r.content.length ≤ 237 ∧ (k + 1 < parts.length → r.content.length = 237))) ∧
  ([.none, .good, .limited, .stale, .failed].map qualityCode = [0, 1, 2, 3, 4] ∧
    [.none, .reading, .holdoffLimit, .silent, .abandoned].map scanOutcomeCode = [0, 1, 2, 3, 4] ∧
    [.offline, .active, .diverted, .fault].map streamStateCode = [1, 2, 3, 4] ∧
    [.none, .primary, .divert, .unrouted].map creditedCode = [0, 1, 2, 3] ∧
    [.idle, .pending, .inFlight, .refused, .failed].map actStateCode = [1, 2, 3, 4, 5] ∧
    [.none, .notAllowed, .outOfRange, .localMode, .silent, .holdoffLimit, .unmapped].map actReasonCode = [0, 1, 2, 3, 4, 5, 6] ∧
    [.idle, .run, .harvest, .fault].map cellStateCode = [1, 2, 3, 4] ∧
    [.none, .sulfideRisk, .senseLost].map cellFaultCode = [0, 1, 2] ∧
    [.empty, .lead, .lag, .spent].map posStateCode = [1, 2, 3, 4] ∧
    [.idle, .filling, .mixing, .testing, .queued, .releasing, .rework].map tankStateCode = [1, 2, 3, 4, 5, 6, 7] ∧
    [.unknown, .online, .suspect, .lost].map nodeStateCode = [1, 2, 3, 4] ∧
    [.silent, .holdoffLimit].map failReasonCode = [1, 2] ∧ [.power, .pin, .command].map resetCauseCode = [1, 2, 3] ∧
    (∀ b, batchBytes b = laidOut (batchLayout b)) ∧ (∀ time, clockBytes time = laidOut (clockFields time)) ∧
    (∀ n, optBytes n none = List.replicate n 255 ∧ ∀ x, optBytes n (some x) = be n x) ∧
    ∀ raw : Int, rawBytes raw = be 2 (raw % 65536).toNat) ∧
  ∀ s : State,
    let seconds (n : Nat) (timer : Option Nat) : List Byte := optBytes n (timer.map fun ms => (ms + 999) / 1000)
    (∀ p : PointIx, let x := s.point p
      readContent .point s p = loadedBytes 22 (x.cfg.map fun c =>
        pointCfgBytes c ++ be 3 x.value ++ be 1 (qualityCode x.quality) ++ be 2 x.age ++
          match c.source with
          | .field .. => be 2 (x.lastRaw % 65536).toNat
          | .analog _ => be 2 (x.lastRaw % 65536).toNat
          | .switch _ => be 1 x.lastRaw.toNat
          | .counter .. => be 4 x.lastRaw.toNat)) ∧
    (∀ i : CurveIx, let c := s.curve i
      (c = [] → readContent .curve s i = [0, 0]) ∧
      (c ≠ [] → readContent .curve s i = 1 :: be 1 c.length ++ c.flatMap fun b => rawBytes b.1 ++ be 3 b.2)) ∧
    (∀ i : ScanIx, let e := s.scanEntry i
      readContent .scan s i = loadedBytes 3 (e.slot.map fun c => be 1 c.1.val ++ be 2 c.2) ++ optBytes 3 e.since
        ++ be 1 e.owed.toNat ++ be 1 (scanOutcomeCode e.last)) ∧
    (∀ i : StreamIx, let x := s.stream i
      readContent .stream s i = loadedBytes 21 (x.cfg.map streamCfgBytes) ++ be 1 (streamStateCode x.state) ++ be 6 x.mass
        ++ be 6 x.volume ++ be 2 x.massResidue ++ be 1 x.volResidue ++ be 4 x.snapshot ++ be 3 x.rate
        ++ be 1 (creditedCode x.credited) ++ be 2 x.divertedTime ++ be 4 x.estimated ++ be 1 x.saturated.toNat
        ++ be 5 x.lastMass ++ be 3 x.lastVol ++ be 6 s.accounts.unrouted.mass ++ be 6 s.accounts.unrouted.volume
        ++ be 6 s.accounts.ret.mass ++ be 6 s.accounts.ret.volume) ∧
    (∀ a : ActIx, let x := s.actuator a
      ∃ owner : List Byte,
        ((∀ o, ¬ Names s o a) → owner = [0, 255]) ∧
        ((∃ o, Names s o a) → ∃ o, Names s o a ∧
          owner = (match o with
            | .stream i => [1, BitVec.ofNat 8 i]
            | .tank t => [2, BitVec.ofNat 8 t]
            | .chain k => [3, BitVec.ofNat 8 k])) ∧
        readContent .actuator s a = loadedBytes 15 (x.cfg.map fun c =>
          bindingBytes c.binding ++ be 2 c.safe ++ be 2 x.desired ++ optBytes 2 x.confirmed ++ be 1 (actStateCode x.state)
            ++ be 1 (actReasonCode x.reason) ++ seconds 1 x.retry ++ owner)) ∧
    (∀ i : InterlockIx,
      (s.interlock i = none → readContent .interlock s i = List.replicate 9 0) ∧
      ∀ e, s.interlock i = some e →
        (CondMet s e.cond → readContent .interlock s i = 1 :: interlockBytes e ++ [1]) ∧
        (¬ CondMet s e.cond → readContent .interlock s i = 1 :: interlockBytes e ++ [0])) ∧
    (∀ e : CellIx, let x := s.cell e
      readContent .cell s e = loadedBytes 23 (x.cfg.map cellCfgBytes) ++ be 1 (cellStateCode x.state)
        ++ be 1 (cellFaultCode x.fault) ++ be 1 x.fold ++ be 1 x.high ++ be 1 x.miss ++ be 3 x.inflowRate ++ be 2 x.target
        ++ be 2 x.effective ++ be 2 x.pendingDuty ++ be 2 x.latchedDuty ++ seconds 1 x.regTimer ++ be 6 x.plated
        ++ be 2 x.platedResidue ++ be 6 x.inflow) ∧
    (∀ (k : ChainIx) (accepting : Bool), (accepting = true ↔ Accepting s (.chain k)) →
      let x := s.chain k
      let position (p : Position) : List Byte :=
        be 1 (posStateCode p.state) ++ be 6 p.capacity ++ be 6 p.loading ++ be 2 p.tailResidue
      readContent .chain s k = loadedBytes 12 (x.cfg.map chainCfgBytes) ++ position x.posA ++ position x.posB ++ be 4 x.volume
        ++ be 1 x.run ++ be 6 x.unplaced ++ be 6 x.passed ++ be 2 x.passedResidue ++ be 1 x.metering.isSome.toNat
        ++ be 1 accepting.toNat) ∧
    (∀ (t : TankIx) (accepting : Bool), (accepting = true ↔ Accepting s (.tank t)) →
      let x := s.tank t
      (x.cfg = none →
        readContent .tank s t = List.replicate 36 0 ++ be 6 x.fillMass ++ be 6 x.fillVol ++ List.replicate 54 0) ∧
      ∀ c, x.cfg = some c →
        readContent .tank s t = 1 :: tankCfgBytes c ++ be 1 (tankStateCode x.state) ++ be 6 x.fillMass ++ be 6 x.fillVol
          ++ be 2 x.batchNo ++ be 1 x.silverSamples ++ be 1 x.phSamples ++ be 1 x.deferred.toNat ++ be 1 x.paused.toNat
          ++ be 4 x.outSnapshot ++ be 1 x.outVolResidue ++ be 2 x.outMassResidue ++ seconds 2 x.dwell ++ seconds 2 x.test
          ++ be 1 x.metering.isSome.toNat ++ loadedBytes 34 (x.batch.map batchBytes) ++ be 1 accepting.toNat) ∧
    (∀ (accepting : Bool) (failing : Nat), (accepting = true ↔ DrainOpen s) → (DrainOpen s → failing = 0) →
      (¬ DrainOpen s → ¬ DrainPart s failing ∧ ∀ k, k < failing → DrainPart s k) →
      let d := s.disch
      let held (x : Tank) : List Byte := match x.batch with
        | some b => be 2 b.number ++ be 6 (b.estimate - b.released)
        | none => be 2 0 ++ be 6 0
      let remaining := match d.permit with
        | some p => p.cap - d.consumed
        | none => 0
      ∃ releasing : List Byte,
        (releasingTank s = none → releasing = [255, 0, 0, 0, 0, 0, 0, 0, 0]) ∧
        (∀ t b, releasingTank s = some t → (s.tank t).batch = some b →
          releasing = be 1 t.val ++ be 2 b.number ++ be 6 b.released) ∧
        readContent .permit s 0 = loadedBytes 26 (d.permit.map permitCfgBytes) ++ be 1 d.permit.isSome.toNat
          ++ optBytes 3 d.permitDay ++ be 6 d.consumed ++ be 6 remaining ++ be 2 d.released ++ be 3 d.peak
          ++ be 1 d.lowAlerted.toNat ++ be 1 d.exhaustedAlerted.toNat ++ clockBytes d.clock ++ be 1 accepting.toNat
          ++ be 1 failing ++ be 1 d.queue.length ++ (d.queue.flatMap fun t => be 1 t.val ++ held (s.tank t)) ++ releasing) ∧
    (∀ p : PinIx, let x := s.pin p
      readContent .pinmap s p = 1 :: pinFnBytes x.fn
        ++ (match x.fn with
          | .unused => List.replicate 14 0
          | .input .. =>
            be 1 x.level.toNat ++ be 1 x.debounced.toNat ++ be 1 x.debounce.isSome.toNat ++ List.replicate 11 0
          | .output inv =>
            List.replicate 3 0 ++ be 1 x.drive.toNat ++ be 1 (xor x.drive inv).toNat ++ List.replicate 9 0
          | .counter q _ _ => List.replicate 5 0 ++ be 4 (counterValue s q) ++ List.replicate 5 0
          | .cellPwm e _ =>
            List.replicate 9 0 ++ be 1 (s.cell e).cfg.isSome.toNat ++ be 2 (s.cell e).latchedDuty ++ List.replicate 2 0
          | .analog => List.replicate 12 0 ++ be 2 x.sample.toNat)
        ++ [0, 1, 2, 3, 4, 5].flatMap fun q : CounterIx => be 2 (s.counter q).toNat) ∧
    (∀ i : KindIx, let q := s.reports
      let waiting (c : Sys2Proof.Class) : Nat := (q.entries.filter fun e => e.cls = c).length
      readContent .classmap s i = 1 :: be 1 q.classMap[i].val ++ be 1 defaultClasses[i].val
        ++ ([0, 1, 2, 3].flatMap fun c : Sys2Proof.Class => be 1 q.masks[c].toNat)
        ++ ([0, 1, 2, 3].flatMap fun c : Sys2Proof.Class =>
          be 1 (waiting c) ++ be 1 (if q.masks[c] = true then waiting c else 0))
        ++ be 1 q.gap.toNat) ∧
    ∃ nodes : List (List Byte), nodes.length = 62 ∧
      (∀ n : NodeIx, nodes[n.val]? =
        some (be 1 (nodeStateCode (s.node n).state) ++ be 1 (s.node n).count
          ++ be 1 (match (s.node n).reason with
            | some r => failReasonCode r
            | none => 0))) ∧
      readContent .line s 0 = 1 :: lineBytes s.line.params ++ nodes.flatten ++ be 1 s.line.controlQ.length
        ++ (s.line.controlQ.flatMap fun a => be 1 a.val) ++ be 1 s.line.passQ.length
        ++ be 1 s.line.allSafePending.toNat ++ be 1 (decide (s.line.hold = .allSafeSending)).toNat
        ++ be 1 (decide (s.line.hold = .allSafeSettling)).toNat ++ be 1 s.line.setRun

/-- R195, R205: every LOAD record of its table's length is read as one thing: NONE when its kind byte is 0, whatever follows; else the
content whose fields it spells, each in its place and within the ranges and combinations of R1, R3, R32, R33, R45, R62, R75, R108 and R109;
else a bad record. Stated of points, curves (whose kind byte is the count), scan entries, streams, actuators and cells (logs 21, 29 and 30).
R205: a record that codes the loaded fields as a READ returns them is read back as those fields. -/
def Obligations.PlantRecordsAreReadAsCoded : Prop :=
  (∀ c : PointCfg, c.InRange → pointBody (pointCfgBytes c) = .content c ∧ (pointCfgBytes c).length = 12) ∧
  (∀ c : Curve, CurveInRange c →
    let record := be 1 c.length ++ c.flatMap fun b => rawBytes b.1 ++ be 3 b.2
    curveBody record = .content c ∧ record.length = recordLength .curve record) ∧
  (∀ (p : PointIx) (period : Nat), 1 ≤ period → period ≤ 36000 →
    scanBody (be 1 1 ++ be 1 p.val ++ be 2 period) = .content (p, period)) ∧
  (∀ c : StreamCfg, c.InRange → streamBody (streamCfgBytes c) = .content c ∧ (streamCfgBytes c).length = 21) ∧
  (∀ (b : Binding) (v : Nat), v ≤ 1000 →
    actuatorBody (bindingBytes b ++ be 2 v) = .content { binding := b, safe := v } ∧
      (bindingBytes b ++ be 2 v).length = 6) ∧
  (∀ c : CellCfg, c.InRange →
    cellBody (be 1 1 ++ cellCfgBytes c) = .content c ∧ (be 1 1 ++ cellCfgBytes c).length = 24) ∧
  ReadsRecords .point (fun _ => 12) pointBody SpellsPoint ∧
  ReadsRecords .curve (fun r => 1 + 5 * numberAt r 0 1) curveBody SpellsCurve ∧
  ReadsRecords .scan (fun _ => 4) scanBody SpellsScan ∧
  ReadsRecords .stream (fun _ => 21) streamBody SpellsStream ∧
  ReadsRecords .actuator (fun _ => 6) actuatorBody SpellsActuator ∧
  ReadsRecords .cell (fun _ => 24) cellBody SpellsCell

/-- R195, R205: the same of chains, tanks, the permit, the pin map, interlocks, classes and the line: every record of the table's length is
NONE, the content that it spells within the ranges and combinations of R57, R88, R94, R131, R132, R146, R147, R166 and R184, or bad
(logs 21, 29, 30, 32 and 36). Which functions a pin provides (R95) is a check of the LOAD, stated at `PinMapLoadsMoveThePin`; that a LINE
record is never NONE (R57, R195) is stated at `TankPermitAndLineLoads`. R205: a record that codes the loaded fields as a READ returns them
is read back as those fields. -/
def Obligations.ControlRecordsAreReadAsCoded : Prop :=
  (∀ c : ChainCfg, c.InRange →
    chainBody (be 1 1 ++ chainCfgBytes c) = .content c ∧ (be 1 1 ++ chainCfgBytes c).length = 13) ∧
  (∀ c : TankCfg, c.InRange →
    tankBody (be 1 1 ++ tankCfgBytes c) = .content c ∧ (be 1 1 ++ tankCfgBytes c).length = 35) ∧
  (∀ c : PermitCfg, c.InRange →
    permitBody (be 1 1 ++ permitCfgBytes c) = .content c ∧ (be 1 1 ++ permitCfgBytes c).length = 27) ∧
  (∀ f : PinFn, f.InRange → pinBody (pinFnBytes f) = .content f ∧ (pinFnBytes f).length = 7) ∧
  (∀ e : Interlock, e.cond.InRange → e.max ≤ 1000 →
    interlockBody (be 1 1 ++ interlockBytes e) = .content e ∧ (be 1 1 ++ interlockBytes e).length = 8) ∧
  (∀ c : Sys2Proof.Class, classBody (be 1 1 ++ be 1 c.val) = .content c) ∧
  (∀ c : LineParams, c.InRange →
    lineBody (be 1 1 ++ lineBytes c) = .content c ∧ (be 1 1 ++ lineBytes c).length = 8) ∧
  ReadsRecords .chain (fun _ => 13) chainBody SpellsChain ∧
  ReadsRecords .tank (fun _ => 35) tankBody SpellsTank ∧
  ReadsRecords .permit (fun _ => 27) permitBody SpellsPermit ∧
  ReadsRecords .pinmap (fun _ => 7) pinBody SpellsPin ∧
  ReadsRecords .interlock (fun _ => 8) interlockBody SpellsInterlock ∧
  ReadsRecords .classmap (fun _ => 2) classBody SpellsClass ∧
  ReadsRecords .line (fun _ => 8) lineBody SpellsLine

/-! ## LOADs -/

/-- R32, R33, R34, R35, R36, R40: a LOAD of a point that an object in service names is BUSY, a bad record BAD_VALUE; otherwise the point is
fresh or unloaded, and one on a LOST node is FAILED at once, with POINT_FAILED (12.3; its cause NODE_LOST coded 2 by log 13). Nothing
else changes. -/
def Obligations.PointLoadsMakeAFreshPoint : Prop :=
  ∀ (s : State) (p : PointIx) (record : List Byte) (tag : Byte) (rest : List Request),
    Loads .point p s record tag rest →
    (PointUsed s p → RefusedWith .loadPoint s rest tag .busy) ∧
    (¬ PointUsed s p →
      (pointBody record = .bad → RefusedWith .loadPoint s rest tag .badValue) ∧
      (pointBody record = .unload → AcceptedAs .loadPoint s rest tag (s.setPoint p {})) ∧
      ∀ c, pointBody record = .content c →
        ((∀ n ch, c.source = .field n ch → (s.node n).state ≠ .lost) →
          AcceptedAs .loadPoint s rest tag (s.setPoint p { cfg := some c })) ∧
        ∀ n ch, c.source = .field n ch → (s.node n).state = .lost →
          AcceptedAs .loadPoint s rest tag
            { s.setPoint p { cfg := some c, quality := .failed } with
              reports := s.reports.raise (.alert .pointFailed (.point p) [2] s.clock) })

/-- R45, R62, R64, R88, R184: LOADs of curves, scan entries, interlocks and classes; each clause states all that changes. That a scan entry
which fails both checks of R62 is BAD_VALUE is the model's choice (log 39). -/
def Obligations.SmallTableLoads : Prop :=
  ∀ (s : State) (record : List Byte) (tag : Byte) (rest : List Request),
    (∀ i : CurveIx, Loads .curve i s record tag rest →
      (CurveUsed s i → RefusedWith .loadCurve s rest tag .busy) ∧
      (¬ CurveUsed s i →
        (curveBody record = .bad → RefusedWith .loadCurve s rest tag .badValue) ∧
        (curveBody record = .unload → AcceptedAs .loadCurve s rest tag (s.setCurve i [])) ∧
        ∀ c, curveBody record = .content c → AcceptedAs .loadCurve s rest tag (s.setCurve i c))) ∧
    (∀ i : ScanIx, Loads .scan i s record tag rest →
      let written (slot : Option (PointIx × Nat)) : State :=
        { s with line :=
          { s.line with scan := s.line.scan.set i { slot := slot }, hold := rewrittenHold i s.line.hold } }
      (scanBody record = .bad → RefusedWith .loadScan s rest tag .badValue) ∧
      (scanBody record = .unload → AcceptedAs .loadScan s rest tag (written none)) ∧
      ∀ p period, scanBody record = .content (p, period) →
        ((∀ n ch, ¬ OnField s p n ch) → RefusedWith .loadScan s rest tag .badValue) ∧
        (∀ n ch, OnField s p n ch →
          ((∃ j q, j ≠ i ∧ (s.scanEntry j).slot = some (p, q)) → RefusedWith .loadScan s rest tag .conflict) ∧
          ((∀ j q, j ≠ i → (s.scanEntry j).slot ≠ some (p, q)) →
            AcceptedAs .loadScan s rest tag (written (some (p, period)))))) ∧
    (∀ i : InterlockIx, Loads .interlock i s record tag rest →
      (interlockBody record = .bad → RefusedWith .loadInterlock s rest tag .badValue) ∧
      (interlockBody record = .unload → AcceptedAs .loadInterlock s rest tag (s.setInterlock i none)) ∧
      ∀ e, interlockBody record = .content e → AcceptedAs .loadInterlock s rest tag (s.setInterlock i (some e))) ∧
    (∀ i : KindIx, Loads .classmap i s record tag rest →
      let mapped (c : Sys2Proof.Class) : State := { s with reports := { s.reports with classMap := s.reports.classMap.set i c } }
      (classBody record = .bad → RefusedWith .loadClassmap s rest tag .badValue) ∧
      (classBody record = .unload → AcceptedAs .loadClassmap s rest tag (mapped defaultClasses[i])) ∧
      ∀ c, classBody record = .content c → AcceptedAs .loadClassmap s rest tag (mapped c))

/-- R1 to R5, R77: a LOAD of a stream: BUSY, BAD_VALUE and CONFLICT in their order, then a fresh record; an unload of an unloaded record has
no effect. Nothing else changes, the plant-wide accounts among it. -/
def Obligations.StreamLoadsTakeTheirClaims : Prop :=
  ∀ (s : State) (i : StreamIx) (record : List Byte) (tag : Byte) (rest : List Request),
    Loads .stream i s record tag rest →
    ((s.stream i).state ≠ .offline → RefusedWith .loadStream s rest tag .busy) ∧
    ((s.stream i).state = .offline →
      (streamBody record = .bad → RefusedWith .loadStream s rest tag .badValue) ∧
      (streamBody record = .unload →
        ((s.stream i).cfg = none → RefusedWith .loadStream s rest tag .ok) ∧
        (∀ old, (s.stream i).cfg = some old → AcceptedAs .loadStream s rest tag (s.setStream i {}))) ∧
      ∀ c, streamBody record = .content c →
        (WrongKind s c.silverPoint .silver ∨ WrongKind s c.flowPoint .flow →
          RefusedWith .loadStream s rest tag .badValue) ∧
        (¬ WrongKind s c.silverPoint .silver → ¬ WrongKind s c.flowPoint .flow →
          (OwnedElsewhere s c.route (.stream i) ∨ FlowTaken s c.flowPoint (.stream i) →
            RefusedWith .loadStream s rest tag .conflict) ∧
          (¬ OwnedElsewhere s c.route (.stream i) → ¬ FlowTaken s c.flowPoint (.stream i) →
            AcceptedAs .loadStream s rest tag (s.setStream i { cfg := some c }))))

/-- R75, R76, R77, R80: a LOAD of an actuator clears the record (it leaves the queue, its transaction in flight is void), takes the load
values and sends the safe value out: through the control set queue, or to the pin at once. An unload sends nothing. That ACTUATOR_FAILED for
UNMAPPED carries the reason alone, coded 6, is the model's reading (logs 12 and 13). -/
def Obligations.ActuatorLoadsSendTheSafeValue : Prop :=
  ∀ (s : State) (a : ActIx) (record : List Byte) (tag : Byte) (rest : List Request),
    Loads .actuator a s record tag rest →
    (OwnerUses s a → RefusedWith .loadActuator s rest tag .busy) ∧
    (¬ OwnerUses s a →
      (actuatorBody record = .bad → RefusedWith .loadActuator s rest tag .badValue) ∧
      (actuatorBody record = .unload →
        ((s.actuator a).cfg = none → RefusedWith .loadActuator s rest tag .ok) ∧
        (∀ old, (s.actuator a).cfg = some old →
          AcceptedAs .loadActuator s rest tag { s.setActuator a {} with line := clearedLine s a })) ∧
      ∀ c, actuatorBody record = .content c →
        ((∃ b x, b ≠ a ∧ (s.actuator b).cfg = some x ∧ x.binding = c.binding) →
          RefusedWith .loadActuator s rest tag .conflict) ∧
        ((∀ b x, b ≠ a → (s.actuator b).cfg = some x → x.binding ≠ c.binding) →
          (∀ n ch, c.binding = .field n ch →
            AcceptedAs .loadActuator s rest tag
              { s.setActuator a { cfg := some c, desired := c.safe, state := .pending } with
                line := { clearedLine s a with controlQ := (clearedLine s a).controlQ ++ [a] } }) ∧
          ∀ p, c.binding = .pin p →
            AcceptedAs .loadActuator s rest tag
              (appliedTo ({ s.setActuator a { cfg := some c } with line := clearedLine s a }) a p c.safe)))

/-- R108 to R110, R131 to R133: LOADs of cells and chains make fresh records; a chain's metering timer starts. Nothing else changes. -/
def Obligations.CellAndChainLoads : Prop :=
  ∀ (s : State) (record : List Byte) (tag : Byte) (rest : List Request),
    (∀ e : CellIx, Loads .cell e s record tag rest →
      ((s.cell e).state ≠ .idle → RefusedWith .loadCell s rest tag .busy) ∧
      ((s.cell e).state = .idle →
        (cellBody record = .bad → RefusedWith .loadCell s rest tag .badValue) ∧
        (cellBody record = .unload →
          ((s.cell e).cfg = none → RefusedWith .loadCell s rest tag .ok) ∧
          (∀ old, (s.cell e).cfg = some old → AcceptedAs .loadCell s rest tag (s.setCell e {}))) ∧
        ∀ c, cellBody record = .content c →
          (WrongKind s c.voltPoint .volt → RefusedWith .loadCell s rest tag .badValue) ∧
          (¬ WrongKind s c.voltPoint .volt →
            AcceptedAs .loadCell s rest tag (s.setCell e { cfg := some c })))) ∧
    (∀ k : ChainIx, Loads .chain k s record tag rest →
      (HasLead s k → RefusedWith .loadChain s rest tag .busy) ∧
      (¬ HasLead s k →
        (chainBody record = .bad → RefusedWith .loadChain s rest tag .badValue) ∧
        (chainBody record = .unload →
          ((s.chain k).cfg = none → RefusedWith .loadChain s rest tag .ok) ∧
          (∀ old, (s.chain k).cfg = some old → AcceptedAs .loadChain s rest tag (s.setChain k {}))) ∧
        ∀ c, chainBody record = .content c →
          (∀ p, c.tail = some p → WrongKind s p .silver → RefusedWith .loadChain s rest tag .badValue) ∧
          ((∀ p, c.tail = some p → ¬ WrongKind s p .silver) →
            (OwnedElsewhere s c.order (.chain k) → RefusedWith .loadChain s rest tag .conflict) ∧
            (¬ OwnedElsewhere s c.order (.chain k) →
              AcceptedAs .loadChain s rest tag (s.setChain k { cfg := some c, metering := some 1000 })))))

/-- R146 to R148, R77: a LOAD of a tank; a drain whose safe value is its open value is BAD_VALUE, a taken claim CONFLICT. R57, R166, R167,
R171, R197: LOADs of the permit and of the line parameters. -/
def Obligations.TankPermitAndLineLoads : Prop :=
  (∀ (s : State) (t : TankIx) (record : List Byte) (tag : Byte) (rest : List Request),
    Loads .tank t s record tag rest →
    ((s.tank t).state ≠ .idle → RefusedWith .loadTank s rest tag .busy) ∧
    ((s.tank t).state = .idle →
      (tankBody record = .bad → RefusedWith .loadTank s rest tag .badValue) ∧
      (tankBody record = .unload →
        ((s.tank t).cfg = none → RefusedWith .loadTank s rest tag .ok) ∧
        (∀ old, (s.tank t).cfg = some old → AcceptedAs .loadTank s rest tag (s.setTank t {}))) ∧
      ∀ c, tankBody record = .content c →
        (WrongKind s c.levelPoint .level ∨ WrongKind s c.silverPoint .silver ∨
            WrongKind s c.phPoint .ph ∨ WrongKind s c.outletPoint .flow ∨
            (∃ x, (s.actuator c.drain.act).cfg = some x ∧ x.safe = c.drain.opened) →
          RefusedWith .loadTank s rest tag .badValue) ∧
        (¬ WrongKind s c.levelPoint .level → ¬ WrongKind s c.silverPoint .silver →
          ¬ WrongKind s c.phPoint .ph → ¬ WrongKind s c.outletPoint .flow →
          (∀ x, (s.actuator c.drain.act).cfg = some x → x.safe ≠ c.drain.opened) →
          let conflict := ¬ [c.inlet.act, c.drain.act, c.rework.act].Nodup ∨
            (∃ a ∈ [c.inlet.act, c.drain.act, c.rework.act], OwnedElsewhere s a (.tank t)) ∨
            FlowTaken s c.outletPoint (.tank t)
          ((conflict → RefusedWith .loadTank s rest tag .conflict) ∧
          (¬ conflict →
            AcceptedAs .loadTank s rest tag (s.setTank t { cfg := some c, metering := some 1000 })))))) ∧
  ∀ (s : State) (record : List Byte) (tag : Byte) (rest : List Request),
    (Loads .permit 0 s record tag rest →
      (∀ t, releasingTank s = some t → RefusedWith .loadPermit s rest tag .busy) ∧
      (releasingTank s = none →
        (permitBody record = .bad → RefusedWith .loadPermit s rest tag .badValue) ∧
        (permitBody record = .unload →
          AcceptedAs .loadPermit s rest tag { s with disch := { s.disch with permit := none, permitDay := none } }) ∧
        ∀ c, permitBody record = .content c →
          (WrongKind s c.silverPoint .silver ∨ WrongKind s c.phPoint .ph →
            RefusedWith .loadPermit s rest tag .badValue) ∧
          (¬ WrongKind s c.silverPoint .silver → ¬ WrongKind s c.phPoint .ph →
            AcceptedAs .loadPermit s rest tag
              (budgetAlerts { s with disch :=
                { s.disch with
                  permit := some c
                  permitDay := dayOf (some c) s.disch.clock
                  consumed := c.start
                  released := if s.disch.permit = none then 0 else s.disch.released
                  peak := if s.disch.permit = none then 0 else s.disch.peak
                  lowAlerted := false
                  exhaustedAlerted := false } })))) ∧
    (Loads .line 0 s record tag rest →
      (lineBody record = .bad ∨ lineBody record = .unload → RefusedWith .loadLine s rest tag .badValue) ∧
      ∀ c, lineBody record = .content c →
        AcceptedAs .loadLine s rest tag
          { s with
            line := { s.line with params := c }
            port := { s.port with silence := if c.silence = 0 then none else some (c.silence * 1000) } })

/-- R94 to R97, R84, R80: a LOAD of a pin map entry. It is BUSY while an object in service uses the pin (log 23), the drain of a RELEASING
tank among them; BAD_VALUE for a function the pin does not provide and for a cascade on an odd counter; CONFLICT for a counter or a cell
that another pin has. Otherwise the pin gives up its old function and takes the new one, an assigned counter is cleared, both halves of a
pair, and the actuator bound to a pin that ceases to be, or becomes, OUTPUT is told (logs 12 and 13). -/
def Obligations.PinMapLoadsMoveThePin : Prop :=
  ∀ (s : State) (p : PinIx) (record : List Byte) (tag : Byte) (rest : List Request),
    Loads .pinmap p s record tag rest →
    (PinUsed s p → RefusedWith .loadPinmap s rest tag .busy) ∧
    (¬ PinUsed s p →
      (pinBody record = .bad → RefusedWith .loadPinmap s rest tag .badValue) ∧
      ∀ f : PinFn, pinBody record = .content f ∨ (pinBody record = .unload ∧ f = .unused) →
        (PinLacks p f → RefusedWith .loadPinmap s rest tag .badValue) ∧
        (¬ PinLacks p f → PinClashes s p f → RefusedWith .loadPinmap s rest tag .conflict) ∧
        (¬ PinLacks p f → ¬ PinClashes s p f →
          let x := s.pin p
          let new : Pin := match f with
            | .unused => { fn := .unused, level := x.level }
            | .input inv d => { fn := .input inv d, level := x.level, debounced := if inv then !x.level else x.level }
            | .output inv =>
              { fn := .output inv, level := x.level,
                drive := match x.fn with
                  | .output _ => x.drive
                  | _ => false }
            | .counter q edge cascade => { fn := .counter q edge cascade, level := x.level }
            | .cellPwm e inv => { fn := .cellPwm e inv, level := x.level }
            | .analog => { fn := .analog, level := x.level }
          let counters : Vector (BitVec 16) 6 := match f with
            | .counter q _ cascade =>
              Vector.ofFn fun r => if r = q ∨ (cascade = true ∧ r.val = q.val + 1) then 0 else s.counter r
            | _ => s.counters
          let was := ∃ inv, x.fn = .output inv
          let now := ∃ inv, f = .output inv
          let bound (a : ActIx) : Prop := ∃ safe, (s.actuator a).cfg = some { binding := .pin p, safe := safe }
          let moved := { s.setPin p new with counters := counters }
          ((was ↔ now) ∨ (∀ a, ¬ bound a) → AcceptedAs .loadPinmap s rest tag moved) ∧
          ∀ a, bound a → (∀ b, b < a → ¬ bound b) →
            (was → ¬ now →
              AcceptedAs .loadPinmap s rest tag
                { moved.setActuator a { withoutPin (s.actuator a) (s.actuator a).desired with confirmed := none } with
                  reports := unmappedReported s a }) ∧
            (¬ was → now → AcceptedAs .loadPinmap s rest tag (appliedTo moved a p (s.actuator a).desired))))

/-! ## Commands. Their codes and argument layouts are the model's reading of R196 and R205 (logs 4 and 5). -/

/-- R7, R8, R2: START_STREAM and STOP_STREAM, with their checks in order; totals, residues, estimated seconds and the saturated flag
stand, the rate estimate becomes 0. Nothing else changes. -/
def Obligations.StreamsStartAndStop : Prop :=
  ∀ (s : State) (i : StreamIx) (tag : Byte) (rest : List Request),
    (Executing s (commandOf .startStream [BitVec.ofNat 8 i] tag) rest →
      ((s.stream i).cfg = none → RefusedWith .startStream s rest tag .notLoaded) ∧
      ∀ c, (s.stream i).cfg = some c →
        let bound := OfKind s c.silverPoint .silver ∧ OfKind s c.flowPoint .flow ∧
          (s.actuator c.route).cfg ≠ none
        let taken := FlowTaken s c.flowPoint (.stream i)
        ((s.stream i).state ≠ .offline → RefusedWith .startStream s rest tag .busy) ∧
        ((s.stream i).state = .offline → ¬ bound → RefusedWith .startStream s rest tag .badBinding) ∧
        ((s.stream i).state = .offline → bound → taken → RefusedWith .startStream s rest tag .conflict) ∧
        ((s.stream i).state = .offline → bound → ¬ taken →
          ∀ snapshot : Nat,
            (NoCounter s c.flowPoint → snapshot = (s.stream i).snapshot) →
            (∀ q k, OnCounter s c.flowPoint q k →
              snapshot = if counterMapped s q then counterValue s q else 0) →
            AcceptedAs .startStream s rest tag
              (s.setStream i
                { s.stream i with
                  state := .active, divertedTime := 0, rate := 0, credited := .none, snapshot := snapshot }))) ∧
    (Executing s (commandOf .stopStream [BitVec.ofNat 8 i] tag) rest →
      ((s.stream i).cfg = none → RefusedWith .stopStream s rest tag .notLoaded) ∧
      ∀ c, (s.stream i).cfg = some c →
        ((s.stream i).state = .offline → RefusedWith .stopStream s rest tag .ok) ∧
        ((s.stream i).state ≠ .offline →
          AcceptedAs .stopStream s rest tag
            (s.setStream i { s.stream i with state := .offline, rate := 0, credited := .none, divertedTime := 0 })))

/-- R112 to R117, R119, R120, R124, R127: START_CELL, HARVEST_CELL, END_HARVEST and CLEAR_CELL with their checks in order. -/
def Obligations.CellCommandsMoveTheCell : Prop :=
  ∀ (s : State) (e : CellIx) (tag : Byte) (rest : List Request),
    (Executing s (commandOf .startCell [BitVec.ofNat 8 e] tag) rest →
      ((s.cell e).cfg = none → RefusedWith .startCell s rest tag .notLoaded) ∧
      ∀ c, (s.cell e).cfg = some c →
        let bound := OfKind s c.voltPoint .volt ∧ ∃ inv, (s.pin c.pwmPin).fn = .cellPwm e inv
        ((s.cell e).state ≠ .idle → RefusedWith .startCell s rest tag .busy) ∧
        ((s.cell e).state = .idle → s.port.safeHold = true → RefusedWith .startCell s rest tag .held) ∧
        ((s.cell e).state = .idle → s.port.safeHold = false → ¬ bound → RefusedWith .startCell s rest tag .badBinding) ∧
        ((s.cell e).state = .idle → s.port.safeHold = false → bound →
          let x := drivenCell c (inflowRate s e) 0 (s.cell e)
          AcceptedAs .startCell s rest tag
            { s.setCell e { x with state := .run, fault := .none, high := 0, miss := 0 } with
              reports := harvestReported s e c (s.cell e).plated x.plated })) ∧
    (∀ (cmd : Command) (row : Instr) (st : CellState) (after : Cell),
      (cmd = .harvestCell ∧ row = .harvestCell ∧ st = .run ∧ after = stoppedCell .harvest (s.cell e)) ∨
        (cmd = .endHarvest ∧ row = .endHarvest ∧ st = .harvest ∧
          after = { s.cell e with state := .idle, plated := 0, platedResidue := 0 }) ∨
        (cmd = .clearCell ∧ row = .clearCell ∧ st = .fault ∧ after = { s.cell e with state := .idle }) →
      Executing s (commandOf cmd [BitVec.ofNat 8 e] tag) rest →
        ((s.cell e).cfg = none → RefusedWith row s rest tag .notLoaded) ∧
        ((s.cell e).cfg ≠ none → (s.cell e).state ≠ st → RefusedWith row s rest tag .busy) ∧
        ((s.cell e).cfg ≠ none → (s.cell e).state = st → AcceptedAs row s rest tag (s.setCell e after)))

/-- R135, R136, R137: INSTALL_CARTRIDGE and REMOVE_CARTRIDGE with their checks in order; a cartridge behind a LEAD becomes LAG, any other LEAD
with a request of the order actuator. Nothing else changes. -/
def Obligations.CartridgesAreInstalledAndRemoved : Prop :=
  ∀ (s : State) (k : ChainIx) (pos : Byte) (capacity : Nat) (tag : Byte) (rest : List Request),
    (capacity < 281474976710656 →
      Executing s (commandOf .installCartridge ([BitVec.ofNat 8 k, pos] ++ be 6 capacity) tag) rest →
      ((s.chain k).cfg = none → RefusedWith .installCartridge s rest tag .notLoaded) ∧
      ∀ c, (s.chain k).cfg = some c →
        ((pos ≠ 1 ∧ pos ≠ 2) ∨ capacity = 0 → RefusedWith .installCartridge s rest tag .badValue) ∧
        ∀ isA : Bool, pos = (if isA then 1 else 2) → capacity ≠ 0 →
          let here := posOf (s.chain k) isA
          let bound := (s.actuator c.order).cfg ≠ none ∧
            ∀ p, c.tail = some p → OfKind s p .silver
          (here.state = .lead ∨ here.state = .lag → RefusedWith .installCartridge s rest tag .busy) ∧
          (here.state = .empty ∨ here.state = .spent →
            (¬ bound → RefusedWith .installCartridge s rest tag .badBinding) ∧
            (bound → (posOf (s.chain k) (!isA)).state = .lead →
              AcceptedAs .installCartridge s rest tag
                (s.setChain k (setPos (s.chain k) isA { state := .lag, capacity := capacity }))) ∧
            (bound → (posOf (s.chain k) (!isA)).state ≠ .lead →
              AcceptedAs .installCartridge s rest tag
                (ownerRequest c.order (if isA then c.aFirst else c.bFirst)
                  (s.setChain k
                    { setPos (s.chain k) isA { state := .lead, capacity := capacity } with run := 0 }))))) ∧
    (Executing s (commandOf .removeCartridge [BitVec.ofNat 8 k, pos] tag) rest →
      ((s.chain k).cfg = none → RefusedWith .removeCartridge s rest tag .notLoaded) ∧
      ((s.chain k).cfg ≠ none → pos ≠ 1 → pos ≠ 2 → RefusedWith .removeCartridge s rest tag .badValue) ∧
      ∀ isA : Bool, (s.chain k).cfg ≠ none → pos = (if isA then 1 else 2) →
        ((posOf (s.chain k) isA).state = .lead → RefusedWith .removeCartridge s rest tag .busy) ∧
        ((posOf (s.chain k) isA).state = .empty → RefusedWith .removeCartridge s rest tag .ok) ∧
        ((posOf (s.chain k) isA).state = .lag ∨ (posOf (s.chain k) isA).state = .spent →
          AcceptedAs .removeCartridge s rest tag (s.setChain k (setPos (s.chain k) isA {}))))

/-- R150, R151, R152, R155: START_TANK, STOP_TANK and CLOSE_FILL with their checks in order. What the valve requests of `tankRequest` do is
stated at `OwnersMoveTheirActuators`. -/
def Obligations.TankCommandsMoveTheTank : Prop :=
  ∀ (s : State) (t : TankIx) (tag : Byte) (rest : List Request),
    (Executing s (commandOf .startTank [BitVec.ofNat 8 t] tag) rest →
      ((s.tank t).cfg = none → RefusedWith .startTank s rest tag .notLoaded) ∧
      ∀ c, (s.tank t).cfg = some c →
        let bound := OfKind s c.levelPoint .level ∧ OfKind s c.silverPoint .silver ∧
          OfKind s c.phPoint .ph ∧ OfKind s c.outletPoint .flow ∧
          (s.actuator c.inlet.act).cfg ≠ none ∧ (s.actuator c.rework.act).cfg ≠ none ∧
          ∃ x, (s.actuator c.drain.act).cfg = some x ∧ x.safe ≠ c.drain.opened
        let taken := FlowTaken s c.outletPoint (.tank t)
        ((s.tank t).state ≠ .idle → RefusedWith .startTank s rest tag .busy) ∧
        ((s.tank t).state = .idle → ¬ bound → RefusedWith .startTank s rest tag .badBinding) ∧
        ((s.tank t).state = .idle → bound → taken → RefusedWith .startTank s rest tag .conflict) ∧
        ((s.tank t).state = .idle → bound → ¬ taken →
          AcceptedAs .startTank s rest tag (tankRequest t (s.setTank t { s.tank t with state := .filling })))) ∧
    (Executing s (commandOf .stopTank [BitVec.ofNat 8 t] tag) rest →
      ((s.tank t).cfg = none → RefusedWith .stopTank s rest tag .notLoaded) ∧
      ((s.tank t).cfg ≠ none →
        ((s.tank t).state = .releasing ∨ (s.tank t).state = .rework → RefusedWith .stopTank s rest tag .busy) ∧
        ((s.tank t).state = .idle → RefusedWith .stopTank s rest tag .ok) ∧
        ((s.tank t).state ≠ .releasing → (s.tank t).state ≠ .rework → (s.tank t).state ≠ .idle →
          AcceptedAs .stopTank s rest tag
            (tankRequest t
              { s.setTank t
                  { s.tank t with
                    state := .idle, dwell := none, test := none, silverSamples := 0, phSamples := 0,
                    deferred := false } with
                disch := { s.disch with queue := s.disch.queue.filter (· ≠ t) } })))) ∧
    (Executing s (commandOf .closeFill [BitVec.ofNat 8 t] tag) rest →
      ((s.tank t).cfg = none → RefusedWith .closeFill s rest tag .notLoaded) ∧
      ∀ c, (s.tank t).cfg = some c →
        let low := usable (s.point c.levelPoint) = true ∧ (s.point c.levelPoint).value ≤ c.low
        ((s.tank t).state ≠ .filling ∨ low → RefusedWith .closeFill s rest tag .busy) ∧
        ((s.tank t).state = .filling → ¬ low →
          (c.dwell ≠ 0 →
            AcceptedAs .closeFill s rest tag
              (tankRequest t
                (s.setTank t
                  { closedTank t (s.tank t) with state := .mixing, dwell := some (c.dwell * 1000) }))) ∧
          (c.dwell = 0 →
            AcceptedAs .closeFill s rest tag
              (tankRequest t (s.setTank t (testingTank c (closedTank t (s.tank t))))))))

/-- R168, R169, R185: SET_CLOCK sets the clock and recomputes the permit day, with a DAY report and fresh counters at a rollover; MASK_CLASS
and UNMASK_CLASS hold and free a class. -/
def Obligations.ClockAndMaskCommands : Prop :=
  ∀ (s : State) (tag : Byte) (rest : List Request),
    (∀ day sec : Nat, day < 65536 → sec < 16777216 →
      Executing s (commandOf .setClock (be 2 day ++ be 3 sec) tag) rest →
      let now : ClockTime := { day := day, sec := sec }
      (86399 < sec → RefusedWith .setClock s rest tag .badValue) ∧
      (sec ≤ 86399 →
        (s.disch.permit = none ∨ s.disch.permitDay = none →
          AcceptedAs .setClock s rest tag
            { s with disch := { s.disch with clock := some now, permitDay := dayOf s.disch.permit (some now) } }) ∧
        ∀ p old, s.disch.permit = some p → s.disch.permitDay = some old →
          let new := if p.dayStart ≤ sec then day else if day = 0 then 65535 else day - 1
          (new = old → AcceptedAs .setClock s rest tag { s with disch := { s.disch with clock := some now } }) ∧
          (new ≠ old →
            AcceptedAs .setClock s rest tag
              { s with
                reports :=
                  s.reports.raise (.day old s.disch.consumed p.cap s.disch.released s.disch.peak (some now))
                disch :=
                  { s.disch with
                    clock := some now, permitDay := some new, consumed := 0, released := 0, peak := 0,
                    lowAlerted := false, exhaustedAlerted := false } }))) ∧
    (∀ (cmd : Command) (row : Instr) (held : Bool) (b : Byte),
      (cmd = .maskClass ∧ row = .maskClass ∧ held = true) ∨ (cmd = .unmaskClass ∧ row = .unmaskClass ∧ held = false) →
      Executing s (commandOf cmd [b] tag) rest →
        (4 ≤ b.toNat → RefusedWith row s rest tag .badValue) ∧
        ∀ c : Sys2Proof.Class, b.toNat = c.val →
          AcceptedAs row s rest tag { s with reports := { s.reports with masks := s.reports.masks.set c held } })

/-- R89, R90, R91, R194: PASS_SET: the five checks in order, each answered at once; a set that passes joins the pass-through queue with the
least of its value and the maxima of the interlocks on its target, with no RESULT, and the port does not hold. -/
def Obligations.PassSetsAreCheckedAndQueued : Prop :=
  ∀ (s : State) (node ch : Byte) (v : Nat) (tag : Byte) (rest : List Request), v < 65536 →
    Executing s (commandOf .passSet ([node, ch] ++ be 2 v) tag) rest →
    (node = 0 ∨ 62 < node.toNat ∨ 3 < ch.toNat ∨ 1000 < v → RefusedWith .passSet s rest tag .badValue) ∧
    ∀ (n : NodeIx) (c : Channel), node.toNat = n.val + 1 → ch.toNat = c.val → v ≤ 1000 →
      let owned := ∃ a x, (s.actuator a).cfg = some x ∧ x.binding = .field n c
      (owned → RefusedWith .passSet s rest tag .owned) ∧
      (¬ owned → s.port.fallback = true → RefusedWith .passSet s rest tag .fallback) ∧
      (¬ owned → s.port.fallback = false → s.port.safeHold = true → RefusedWith .passSet s rest tag .held) ∧
      (¬ owned → s.port.fallback = false → s.port.safeHold = false →
        (Barred s n c → RefusedWith .passSet s rest tag .interlocked) ∧
        (¬ Barred s n c → 4 ≤ s.line.passQ.length → RefusedWith .passSet s rest tag .busy) ∧
        (¬ Barred s n c → s.line.passQ.length < 4 →
          ∃ w, PassesAs s n c v w ∧
            exec .passSet s =
              .next { s with
                port := { s.port with requests := rest }
                line :=
                  { s.line with
                    passQ := s.line.passQ ++
                      [{ tag := tag, node := n, channel := c, value := w, clamped := decide (w < v) }] } }))

/-- R199, R66, R69, R71, R72, R85, R113, R128, R179: ALL_SAFE enters SAFE-HOLD on every block in one event, in the order of the table of
R199: an ALL-SAFE is raised, a transaction whose request frame has been sent is abandoned by its kind (its RESULT ABANDONED before those of
the queue, log 11), every actuator takes its safe value, from A0 to A15 (that order by log 11; logs 12 and 13), the pass-through queue
empties with results HELD, every RUN cell stops, and a release stops with cause SAFE_HOLD (logs 13 and 33). In SAFE-HOLD the command only
answers. -/
def Obligations.AllSafeEntersSafeHold : Prop :=
  ∀ (s : State) (tag : Byte) (rest : List Request), Executing s (commandOf .allSafe [] tag) rest →
    (s.port.safeHold = true → RefusedWith .allSafe s rest tag .ok) ∧
    (s.port.safeHold = false →
      let raised := afterRaise s
      let applied := (List.finRange 16).foldl safeApplied { raised with port := { raised.port with safeHold := true } }
      let stopped := { applied with
        port :=
          { applied.port with
            results := applied.port.results ++ s.line.passQ.map fun e => passResultOf e.tag .held [] }
        line := { applied.line with passQ := [] }
        cells := s.cells.map fun x => if x.state = .run then stoppedCell .idle x else x }
      (releasingTank s = none → AcceptedAs .allSafe s rest tag stopped) ∧
      ∀ k, releasingTank s = some k →
        AcceptedAs .allSafe s rest tag
          { stopped with
            tanks := s.tanks.set k { s.tank k with state := .queued }
            disch := { s.disch with queue := k :: s.disch.queue }
            reports :=
              stopped.reports.raise (.alert .releaseStopped (.tank k) (stopFigures 5 (s.tank k)) s.clock) })

/-- R200, R164, R87: RESUME leaves FALLBACK with FALLBACK_LEFT, and SAFE-HOLD with every tank requesting the values of its state from T0 to
T3; in neither condition it only answers. R197, R201: KEEPALIVE answers the part's status in the layout of 12.3, with the number of requests
that still wait; RESET_PART produces its OK and ends execution. -/
def Obligations.ResumeKeepaliveAndResetPart : Prop :=
  (∀ (s : State) (tag : Byte) (rest : List Request), Executing s (commandOf .resume [] tag) rest →
    (s.port.fallback = false → s.port.safeHold = false → RefusedWith .resume s rest tag .ok) ∧
    ∀ left : State,
      (s.port.fallback = true →
        left = { s with
          port := { s.port with fallback := false }
          reports := s.reports.raise (.alert .fallbackLeft .part [] s.clock) }) →
      (s.port.fallback = false → left = s) →
      (s.port.safeHold = false → AcceptedAs .resume s rest tag left) ∧
      (s.port.safeHold = true →
        AcceptedAs .resume s rest tag
          (tankRequest 3 (tankRequest 2 (tankRequest 1 (tankRequest 0
            { left with port := { left.port with safeHold := false } })))))) ∧
  ∀ (s : State) (tag : Byte) (rest : List Request),
    (Executing s (commandOf .keepalive [] tag) rest →
      ∀ silence : List Byte,
        (s.port.silence = none → silence = [255, 255]) →
        (∀ ms, s.port.silence = some ms → silence = be 2 ((ms + 999) / 1000)) →
        exec .keepalive s =
          .next { s with port :=
            { s.port with
              requests := rest
              results := s.port.results ++
                [resultOf tag .ok
                  (be 1 s.port.fallback.toNat ++ be 1 s.port.safeHold.toNat ++ be 1 (resetCauseCode s.port.cause)
                    ++ silence ++ be 1 rest.length ++ clockBytes s.clock)]
              holding := true } }) ∧
    (Executing s (commandOf .resetPart [] tag) rest →
      exec .resetPart s =
        .next { s with port :=
          { s.port with
            requests := rest
            results := s.port.results ++ [{ resultOf tag .ok [] with origin := .resetOk }]
            holding := true
            ended := true } })

/-- R77, R79, R80, R150: an owner request in SAFE-HOLD or of an unloaded actuator changes nothing; of a FIELD-bound one it acts by the
actuator's state; a PIN-bound one is applied, and fails for want of an OUTPUT pin (logs 12 and 13). A tank requests its inlet, its drain and
its rework valve by its state. -/
def Obligations.OwnersMoveTheirActuators : Prop :=
  (∀ (s : State) (a : ActIx) (v : Nat), s.port.safeHold = true ∨ (s.actuator a).cfg = none → ownerRequest a v s = s) ∧
  (∀ (s : State) (a : ActIx) (v : Nat) (p : PinIx) (safe : Nat), s.port.safeHold = false →
    (s.actuator a).cfg = some { binding := .pin p, safe := safe } → ownerRequest a v s = appliedTo s a p v) ∧
  (∀ (s : State) (a : ActIx) (v : Nat) (n : NodeIx) (ch : Channel) (safe : Nat), s.port.safeHold = false →
    (s.actuator a).cfg = some { binding := .field n ch, safe := safe } →
    let x := s.actuator a
    let queued := { s.setActuator a { x with desired := v, state := .pending, retry := none } with
      line := { s.line with controlQ := s.line.controlQ ++ [a] } }
    (x.state = .idle → x.confirmed = some v → ownerRequest a v s = s.setActuator a { x with desired := v }) ∧
    (x.state = .idle → x.confirmed ≠ some v → ownerRequest a v s = queued) ∧
    (x.state = .pending → x.confirmed = some v →
      ownerRequest a v s =
        { s.setActuator a { x with desired := v, state := .idle } with
          line := { s.line with controlQ := s.line.controlQ.filter (· ≠ a) } }) ∧
    (x.state = .pending → x.confirmed ≠ some v → ownerRequest a v s = s.setActuator a { x with desired := v }) ∧
    (x.state = .inFlight → ownerRequest a v s = s.setActuator a { x with desired := v }) ∧
    (x.state = .refused ∨ x.state = .failed → x.confirmed = some v →
      ownerRequest a v s = s.setActuator a { x with desired := v, state := .idle, retry := none }) ∧
    (x.state = .refused ∨ x.state = .failed → x.confirmed ≠ some v → x.desired = v → ownerRequest a v s = s) ∧
    (x.state = .refused ∨ x.state = .failed → x.confirmed ≠ some v → x.desired ≠ v → ownerRequest a v s = queued)) ∧
  (∀ (s : State) (t : TankIx) (c : TankCfg), (s.tank t).cfg = some c →
    let x := s.tank t
    tankRequest t s =
      ownerRequest c.rework.act
        (if x.state = .rework ∧ x.paused = false then c.rework.opened else c.rework.closed)
        (ownerRequest c.drain.act (if x.state = .releasing then c.drain.opened else c.drain.closed)
          (ownerRequest c.inlet.act (if x.state = .filling then c.inlet.opened else c.inlet.closed) s)))

/-! ## The field line -/

/-- R63, R64, R65, R66, R67, R68, R70, R89, R91, R92: on a free line the scheduler starts the pending ALL-SAFE; else, at a set-run count of
4, the due poll; else the head of the control set queue, the head of the pass-through queue, the due poll, or nothing. A pass-through that
fails its second check leaves INTERLOCKED and the choice is made again. A held line starts nothing (log 2). -/
def Obligations.SchedulerChoosesByPriority : Prop :=
  ∀ s : State, s.inReset = false →
    (s.line.hold ≠ .none → exec .lineFree s = .next s) ∧
    (s.line.hold = .none →
      (s.line.allSafePending = true →
        exec .lineFree s = .next { s with line := { s.line with allSafePending := false, hold := .allSafeSending } }) ∧
      (∀ i p period n ch, s.line.allSafePending = false →
        4 ≤ s.line.setRun ∨ (s.line.controlQ = [] ∧ s.line.passQ = []) → FirstDue s i →
        (s.scanEntry i).slot = some (p, period) → OnField s p n ch →
          exec .lineFree s =
            .next { s with line :=
              { s.line with
                setRun := 0
                scan := s.line.scan.set i { s.scanEntry i with since := some 0, owed := false }
                hold := freshExchange s (.poll i p false) n ch 0 } }) ∧
      (∀ a rest n ch safe run, s.line.allSafePending = false → SetsFirst s → SetRunAfterSet s run →
        s.line.controlQ = a :: rest → a ∉ rest → (s.actuator a).cfg = some { binding := .field n ch, safe := safe } →
          exec .lineFree s =
            .next { s.setActuator a { s.actuator a with state := .inFlight } with line :=
              { s.line with
                controlQ := rest
                setRun := run
                hold := freshExchange s (.control a false) n ch (s.actuator a).desired } }) ∧
      (∀ e rest run v, s.line.allSafePending = false → SetsFirst s → SetRunAfterSet s run →
        s.line.controlQ = [] → s.line.passQ = e :: rest → PassesAs s e.node e.channel e.value v →
          exec .lineFree s =
            .next { s with line :=
              { s.line with
                passQ := rest
                setRun := run
                hold := freshExchange s (.pass e.tag (e.clamped || decide (v < e.value))) e.node e.channel v } }) ∧
      (∀ e rest, s.line.allSafePending = false → SetsFirst s → s.line.controlQ = [] → s.line.passQ = e :: rest →
        Barred s e.node e.channel →
          exec .lineFree s =
            exec .lineFree { s with
              line := { s.line with passQ := rest }
              port := { s.port with results := s.port.results ++ [passResultOf e.tag .interlocked []] } }) ∧
      (s.line.allSafePending = false → s.line.controlQ = [] → s.line.passQ = [] → (∀ i, ¬ Due s i) →
        exec .lineFree s = .next s))

/-- R52, R70, R203: the frames that the part sends, byte by byte with their CRC-8, whose check value is 244: POLL, SET and ALL-SAFE. R53, R54,
R55, R71, R72: the end of a request frame opens its reply window, or abandons the transaction to a pending ALL-SAFE, which keeps
the line quiet until the window closes or a frame in it has ended; a re-send and the end of a holdoff delay send the same frame again; a frame
outside every window changes nothing. R63, R80, R83: the scan clock raises every entry's time since last start; a retry timer that runs makes
its REFUSED or FAILED actuator IDLE, PENDING at the queue's tail, or applied to its pin again (logs 12 and 13); one that does not run
retries nothing (log 2). The retry of the RELEASING tank's drain on a pin is stated at `DrainFailureStopsTheRelease`. -/
def Obligations.LineTimersAndPhases : Prop :=
  (∀ address kind channel value status : Nat,
    fieldFrame address kind channel value status = fieldLayout address kind channel value status) ∧
  (∀ (bytes : List Byte) (b : Byte), crc8 (bytes ++ [b]) = (dividedBit 7)^[8] (crc8 bytes ^^^ b)) ∧
  crc8 [] = 0 ∧ crc8 [49, 50, 51, 52, 53, 54, 55, 56, 57] = 244 ∧
  (∀ (s : State) (x : Exchange), s.line.hold = .exchange x → x.phase = .sending →
    ((∃ i p rewritten, x.job = .poll i p rewritten) → frameOnLine s = some (fieldLayout (x.node.val + 1) 1 x.channel.val 0 0)) ∧
    ((∀ i p rewritten, x.job ≠ .poll i p rewritten) →
      frameOnLine s = some (fieldLayout (x.node.val + 1) 3 x.channel.val x.value 0))) ∧
  (∀ s : State, s.line.hold = .allSafeSending → frameOnLine s = some (fieldLayout 0 7 0 0 0)) ∧
  (∀ (s : State) (x : Exchange) (frame : List Byte), s.inReset = false →
    exec (.fieldFrameDiscarded frame) s = .next s ∧
    (s.line.hold = .exchange x → x.phase = .sending →
      (s.line.allSafePending = false →
        exec .requestFrameSent s =
          .next { s with line := { s.line with hold := .exchange { x with phase := .window } } }) ∧
      (s.line.allSafePending = true →
        exec .requestFrameSent s =
          .next { afterAbandon x s with line := { (afterAbandon x s).line with hold := .quiet } })) ∧
    (s.line.hold = .exchange x → x.phase = .resend →
      exec .silentAttemptResend s =
        .next { s with line := { s.line with hold := .exchange { x with phase := .sending } } }) ∧
    (s.line.hold = .exchange x → x.phase = .holdoff →
      exec .holdoffDelayExpiry s =
        .next { s with line := { s.line with hold := .exchange { x with phase := .sending } } }) ∧
    (s.line.hold = .quiet →
      exec (.fieldReplyReceived frame) s = .next { s with line := { s.line with hold := .none } } ∧
      exec .replyWindowClosed s = .next { s with line := { s.line with hold := .none } })) ∧
  (∀ s : State, s.inReset = false →
    exec .scanClockStep s =
      .next { s with
        line :=
          { s.line with scan := s.line.scan.map fun e => { e with since := e.since.map fun t => min (t + 1) 65535 } }
        timers := { s.timers with scan := 100 } }) ∧
  (∀ (s : State) (a : ActIx), s.inReset = false → (s.actuator a).retry = none →
    exec (.retryTimerExpiry a) s = .next s) ∧
  (∀ (s : State) (a : ActIx) (ms safe : Nat), s.inReset = false → (s.actuator a).retry = some ms →
    (s.actuator a).state = .refused ∨ (s.actuator a).state = .failed →
    (∀ n ch, (s.actuator a).cfg = some { binding := .field n ch, safe := safe } →
      ((s.actuator a).confirmed = some (s.actuator a).desired →
        exec (.retryTimerExpiry a) s =
          .next (s.setActuator a { s.actuator a with state := .idle, retry := none })) ∧
      ((s.actuator a).confirmed ≠ some (s.actuator a).desired →
        exec (.retryTimerExpiry a) s =
          .next { s.setActuator a { s.actuator a with state := .pending, retry := none } with
            line := { s.line with controlQ := s.line.controlQ ++ [a] } })) ∧
    (∀ p, (s.actuator a).cfg = some { binding := .pin p, safe := safe } → ¬ DrainsRelease s a →
      exec (.retryTimerExpiry a) s = .next (appliedTo s a p (s.actuator a).desired)))

/-- R53, R56, R59, R64, R203: a READING of the node and channel polled ends the poll: first the node's health, then the entry's last outcome,
then the delivery of the signed value and the node status to the point named at the start. NODE_BACK codes POLL as 1 (log 13). -/
def Obligations.ReadingsEndTheirPoll : Prop :=
  ∀ (s : State) (x : Exchange) (i : ScanIx) (p : PointIx) (rewritten fault : Bool) (v : Nat),
    s.inReset = false → s.line.hold = .exchange x → x.phase = .window → x.job = .poll i p rewritten → v < 65536 →
      exec (.fieldReplyReceived (fieldFrame (nodeNumber x.node) 2 x.channel.val v fault.toNat)) s =
        .next
          (deliverReading p x.node x.channel (if v < 32768 then (v : Int) else (v : Int) - 65536) fault
            (withOutcome i rewritten .reading (afterReply x.node 1 s)))

/-- R53, R56, R59, R65, R76, R81, R82, R92, R203: a CONFIRM of the value sent, and a REFUSE with a reason of 12.1, end a SET: first the node's
health, then the actuator's record or the pass-through's RESULT; a void control set leaves its actuator alone. NODE_BACK codes SET as 2
(log 13). A REFUSE of the RELEASING tank's drain is stated at `DrainFailureStopsTheRelease`. -/
def Obligations.SetsEndConfirmedOrRefused : Prop :=
  ∀ (s : State) (x : Exchange), s.inReset = false → s.line.hold = .exchange x → x.phase = .window →
    (x.value ≤ 1000 →
      let confirm := fieldFrame (nodeNumber x.node) 4 x.channel.val x.value 0
      let s' := afterReply x.node 2 s
      (∀ a, x.job = .control a true → exec (.fieldReplyReceived confirm) s = .next s') ∧
      (∀ a, x.job = .control a false →
        ((s.actuator a).desired = x.value →
          exec (.fieldReplyReceived confirm) s =
            .next (s'.setActuator a
              { s.actuator a with confirmed := some x.value, state := .idle, retry := none })) ∧
        ((s.actuator a).desired ≠ x.value →
          exec (.fieldReplyReceived confirm) s =
            .next
              { s'.setActuator a { s.actuator a with confirmed := some x.value, state := .pending, retry := none } with
                line := { s'.line with controlQ := s'.line.controlQ ++ [a] } })) ∧
      (∀ tag clamped, x.job = .pass tag clamped →
        exec (.fieldReplyReceived confirm) s =
          .next { s' with port :=
            { s'.port with
              results := s'.port.results ++
                [passResultOf tag (if clamped then .clamped else .ok) (be 2 x.value)] } })) ∧
    (∀ (status : Nat) (reason : ActReason),
      (status = 1 ∧ reason = .notAllowed) ∨ (status = 2 ∧ reason = .outOfRange) ∨ (status = 3 ∧ reason = .localMode) →
      let refusal := fieldFrame (nodeNumber x.node) 5 x.channel.val 0 status
      let s' := afterReply x.node 2 s
      (∀ a, x.job = .control a true → exec (.fieldReplyReceived refusal) s = .next s') ∧
      (∀ a, x.job = .control a false → ¬ DrainsRelease s a →
        exec (.fieldReplyReceived refusal) s = .next (afterRefusal a .refused reason x.value s')) ∧
      (∀ tag clamped, x.job = .pass tag clamped →
        exec (.fieldReplyReceived refusal) s =
          .next { s' with port :=
            { s'.port with results := s'.port.results ++ [passResultOf tag .refused (be 1 status)] } }))

/-- R53, R54, R55, R56, R60, R40, R64, R82, R92, R203: a window that closes with no frame, and a frame that fails one of the seven conditions
of a reply, make a silent attempt; the first is sent again, the second fails SILENT. A HOLDOFF waits and repeats, the fourth fails
HOLDOFF_LIMIT. A failure settles the node's health and its points first, then the poll's outcome, the actuator or the pass-through; the
codes of its alerts are log 13's. A failed set of the RELEASING tank's drain is stated at `DrainFailureStopsTheRelease`. -/
def Obligations.FailedTransactionsAreSettled : Prop :=
  ∀ (s : State) (x : Exchange), s.inReset = false → s.line.hold = .exchange x → x.phase = .window →
    (∀ (c : Instr) (reason : FailReason) (actReason : ActReason) (outcome : ScanOutcome) (number : Nat),
      ((c = .replyWindowClosed ∨ ∃ frame, c = .fieldReplyReceived frame ∧ NoReply x frame) ∧
          x.silents ≠ 0 ∧ reason = .silent ∧ actReason = .silent ∧ outcome = .silent ∧ number = 1) ∨
        (c = .fieldReplyReceived (fieldFrame (nodeNumber x.node) 6 x.channel.val 0 0) ∧ 3 ≤ x.holdoffs ∧
          reason = .holdoffLimit ∧ actReason = .holdoffLimit ∧ outcome = .holdoffLimit ∧ number = 2) →
      let s' := afterFailure x.node reason s
      (∀ i p rewritten, x.job = .poll i p rewritten → exec c s = .next (withOutcome i rewritten outcome s')) ∧
      (∀ a, x.job = .control a true → exec c s = .next s') ∧
      (∀ a, x.job = .control a false → ¬ DrainsRelease s a →
        exec c s = .next (afterRefusal a .failed actReason x.value s')) ∧
      (∀ tag clamped, x.job = .pass tag clamped →
        exec c s =
          .next { s' with port :=
            { s'.port with results := s'.port.results ++ [passResultOf tag .failed (be 1 number)] } })) ∧
    (x.silents = 0 →
      let again := { s with line := { s.line with hold := .exchange { x with silents := 1, phase := .resend } } }
      exec .replyWindowClosed s = .next again ∧
      ∀ frame, NoReply x frame → exec (.fieldReplyReceived frame) s = .next again) ∧
    (x.holdoffs < 3 →
      exec (.fieldReplyReceived (fieldFrame (nodeNumber x.node) 6 x.channel.val 0 0)) s =
        .next { s with line :=
          { s.line with hold := .exchange { x with holdoffs := x.holdoffs + 1, phase := .holdoff } } })

/-- R179, R53 to R55, R80, R82, R83, R96: the drain of the RELEASING tank. A REFUSE for any of its three reasons, a second silent attempt
and a fourth HOLDOFF, of a set that carried the desired value, make it REFUSED or FAILED, and the release stops with RELEASE_STOPPED, cause
DRAIN_FAILED coded 3 (log 13): the tank is QUEUED again at the head of the release queue. A set that carried an older value only leaves the
drain PENDING or IDLE, and stops nothing. A PIN-bound drain whose retry finds its pin not mapped OUTPUT stops the release, too (logs 12 and
24); a pin map load that would unmap the pin is BUSY. -/
def Obligations.DrainFailureStopsTheRelease : Prop :=
  (∀ (s : State) (x : Exchange) (a : ActIx) (t : TankIx) (c : TankCfg),
    s.inReset = false → s.line.hold = .exchange x → x.phase = .window → x.job = .control a false →
    releasingTank s = some t → (s.tank t).cfg = some c → c.drain.act = a →
    ∀ (cmd : Instr) (failed : State),
      ((∃ status reason,
          ((status = 1 ∧ reason = .notAllowed) ∨ (status = 2 ∧ reason = .outOfRange) ∨
            (status = 3 ∧ reason = .localMode)) ∧
          cmd = .fieldReplyReceived (fieldFrame (nodeNumber x.node) 5 x.channel.val 0 status) ∧
          failed = afterRefusal a .refused reason x.value (afterReply x.node 2 s)) ∨
        ((cmd = .replyWindowClosed ∨ ∃ frame, cmd = .fieldReplyReceived frame ∧ NoReply x frame) ∧ x.silents ≠ 0 ∧
          failed = afterRefusal a .failed .silent x.value (afterFailure x.node .silent s)) ∨
        (cmd = .fieldReplyReceived (fieldFrame (nodeNumber x.node) 6 x.channel.val 0 0) ∧ 3 ≤ x.holdoffs ∧
          failed = afterRefusal a .failed .holdoffLimit x.value (afterFailure x.node .holdoffLimit s))) →
      ((s.actuator a).desired = x.value → exec cmd s = .next (afterStop t 3 failed)) ∧
      ((s.actuator a).desired ≠ x.value → exec cmd s = .next failed)) ∧
  (∀ (s : State) (a : ActIx) (t : TankIx) (c : TankCfg) (p : PinIx) (ms safe : Nat),
    s.inReset = false → (s.actuator a).retry = some ms → (s.actuator a).state = .refused ∨ (s.actuator a).state = .failed →
    (s.actuator a).cfg = some { binding := .pin p, safe := safe } →
    releasingTank s = some t → (s.tank t).cfg = some c → c.drain.act = a →
      (isOutput (s.pin p).fn = false →
        exec (.retryTimerExpiry a) s = .next (afterStop t 3 (appliedTo s a p (s.actuator a).desired))) ∧
      (isOutput (s.pin p).fn = true →
        exec (.retryTimerExpiry a) s = .next (appliedTo s a p (s.actuator a).desired))) ∧
  ∀ (s : State) (t : TankIx) (c : TankCfg) (p : PinIx) (safe : Nat) (record : List Byte) (tag : Byte)
      (rest : List Request),
    releasingTank s = some t → (s.tank t).cfg = some c →
    (s.actuator c.drain.act).cfg = some { binding := .pin p, safe := safe } →
    Loads .pinmap p s record tag rest → RefusedWith .loadPinmap s rest tag .busy

/-- R70, R86: the end of the ALL-SAFE frame begins the settling gap; its completion frees the line, confirms every FIELD-bound actuator at its
safe value, and queues again, in index order, those whose desired value differs. -/
def Obligations.AllSafeConfirmsTheFieldActuators : Prop :=
  ∀ s : State, s.inReset = false →
    (s.line.hold = .allSafeSending →
      exec .allSafeFrameSent s = .next { s with line := { s.line with hold := .allSafeSettling } }) ∧
    (s.line.hold = .allSafeSettling →
      ∃ t, exec .allSafeComplete s = .next t ∧
        t = { s with
          line := { s.line with hold := .none, controlQ := t.line.controlQ }
          actuators := t.actuators } ∧
        (∀ a c, (s.actuator a).cfg = some c →
          (∀ p, c.binding = .pin p → t.actuator a = s.actuator a) ∧
          (∀ n ch, c.binding = .field n ch →
            let x := { s.actuator a with confirmed := some c.safe }
            (x.desired = c.safe → x.state = .pending → t.actuator a = { x with state := .idle }) ∧
            (x.desired = c.safe → x.state = .refused ∨ x.state = .failed →
              t.actuator a = { x with state := .idle, retry := none }) ∧
            (x.desired = c.safe → x.state = .idle ∨ x.state = .inFlight → t.actuator a = x) ∧
            (x.desired ≠ c.safe → x.state = .idle ∨ x.state = .refused ∨ x.state = .failed →
              t.actuator a = { x with state := .pending, retry := none }) ∧
            (x.desired ≠ c.safe → x.state = .pending ∨ x.state = .inFlight → t.actuator a = x))) ∧
        (∀ a, (s.actuator a).cfg = none → t.actuator a = s.actuator a) ∧
        ∃ stay join : List ActIx,
          t.line.controlQ = stay ++ join ∧
          stay = s.line.controlQ.filter (fun a => ¬ ((s.actuator a).state = .pending ∧
            ∃ n ch, (s.actuator a).cfg = some { binding := .field n ch, safe := (s.actuator a).desired })) ∧
          join.Pairwise (· < ·) ∧
          ∀ a, a ∈ join ↔
            ((s.actuator a).state = .idle ∨ (s.actuator a).state = .refused ∨ (s.actuator a).state = .failed) ∧
              ∃ n ch safe, (s.actuator a).cfg = some { binding := .field n ch, safe := safe } ∧
                (s.actuator a).desired ≠ safe)

/-! ## Streams -/

/-- R10 to R16, R42, R44: the account timer takes the streams from S0 to S15, each step complete before the next. A stream that is unloaded or
OFFLINE is not stepped. A step of concentration C and volume V adds (C × V + residue) / 1000 to the mass and V to the volume, each
stopping at 2^48 − 1 with the saturated flag set; the volume of a mapped counter carries its own residue, and its value is stored in the
flow point and handed on; the point of a counter that is not mapped fails. What the credit and the routing of the step then do is stated
at `EachStepCreditsOneAccount` and `RoutingSettlesTheStream`. -/
def Obligations.StreamsKeepTheirAccounts : Prop :=
  (∀ s : State, s.inReset = false →
    exec .accountTimerExpiry s =
      .next ((List.finRange 16).foldl (fun s i => stepStream i s)
        { s with timers := { s.timers with account := 1000 } })) ∧
  (∀ (s : State) (i : StreamIx), (s.stream i).cfg = none ∨ (s.stream i).state = .offline → stepStream i s = s) ∧
  ∀ (s : State) (i : StreamIx) (c : StreamCfg) (conc v snapshot volResidue : Nat) (fallback : Bool) (metered : State),
    (s.stream i).cfg = some c → (s.stream i).state ≠ .offline →
    let silver := s.point c.silverPoint
    let flow := s.point c.flowPoint
    let x := s.stream i
    (conc = if usable silver = true then silver.value else c.fallbackConc) →
    (NoCounter s c.flowPoint ∧ snapshot = x.snapshot ∧ volResidue = x.volResidue ∧
        v = min (if usable flow = true then flow.value else c.fallbackFlow) 16777215 ∧
        fallback = (!usable silver || !usable flow) ∧ metered = s) ∨
      (∃ q k, OnCounter s c.flowPoint q k ∧ counterMapped s q = false ∧ snapshot = 0 ∧ volResidue = x.volResidue ∧
        v = c.fallbackFlow ∧ fallback = true ∧
        metered = failPoint c.flowPoint .unmapped (s.setStream i { x with snapshot := 0 })) ∨
      (∃ q k, OnCounter s c.flowPoint q k ∧ counterMapped s q = true ∧ snapshot = counterValue s q ∧
        volResidue = (pulsesSince s q x.snapshot * k + x.volResidue) % 100 ∧
        v = min ((pulsesSince s q x.snapshot * k + x.volResidue) / 100) 16777215 ∧ fallback = !usable silver ∧
        let point := counted (pulsesSince s q x.snapshot) k flow
        metered =
          effluentReading c.flowPoint point.value
            (testSamples c.flowPoint point.value
              ((s.setStream i { x with snapshot := snapshot, volResidue := volResidue }).setPoint c.flowPoint point))) →
    let sum := conc * v + x.massResidue
    let y := { x with
      mass := min (x.mass + sum / 1000) 281474976710655
      volume := min (x.volume + v) 281474976710655
      massResidue := sum % 1000
      volResidue := volResidue
      snapshot := snapshot
      lastMass := sum / 1000
      lastVol := v
      estimated := if fallback then min (x.estimated + 1) 4294967295 else x.estimated
      saturated := x.saturated || decide (281474976710655 < x.mass + sum / 1000) ||
        decide (281474976710655 < x.volume + v)
      rate := nextRate x.rate (sum / 1000) c.shift }
    let confirmed := (metered.actuator c.route).confirmed
    let credited : Credited :=
      if confirmed = some c.primaryPos then .primary
      else if confirmed = some c.divertPos ∧ c.divert ≠ none then .divert
      else .unrouted
    stepStream i s = routeStep i c (creditStep i c (metered.setStream i y)) ∧
      (stepStream i s).stream i =
        { y with
          state := ((stepStream i s).stream i).state
          divertedTime := ((stepStream i s).stream i).divertedTime
          credited := credited }

/-- R17: the rate estimate moves toward its input by D / 2^shift truncated toward zero, by at least 1, never past it; it stays within
16,777,215, and a constant input is reached and kept. Each step takes its mass increment as the input; a start and a stop set the
estimate to 0; a cell reads the sum of the estimates of the streams credited to it, held at 16,777,215. -/
def Obligations.RateEstimateReachesItsInput : Prop :=
  (∀ rate dm shift : Nat, rate ≤ 16777215 → shift ≤ 7 →
    let u := min dm 16777215
    let r := nextRate rate dm shift
    (rate ≤ u → rate ≤ r ∧ r ≤ u ∧ r = rate + (if rate < u then max ((u - rate) / 2 ^ shift) 1 else 0)) ∧
    (u ≤ rate → u ≤ r ∧ r ≤ rate ∧ r + (if u < rate then max ((rate - u) / 2 ^ shift) 1 else 0) = rate) ∧
    r ≤ 16777215 ∧ (shift = 0 → r = u) ∧
    ∃ n, ∀ m, n ≤ m → Nat.repeat (fun x => nextRate x dm shift) m rate = u) ∧
  (∀ (s : State) (i : StreamIx) (c : StreamCfg), (s.stream i).cfg = some c → (s.stream i).state ≠ .offline →
    ((stepStream i s).stream i).rate = nextRate (s.stream i).rate ((stepStream i s).stream i).lastMass c.shift) ∧
  (∀ (s : State) (i : StreamIx),
    (((startStream i s).2.stream i).state ≠ (s.stream i).state → ((startStream i s).2.stream i).rate = 0) ∧
    (((stopStream i s).2.stream i).state ≠ (s.stream i).state → ((stopStream i s).2.stream i).rate = 0)) ∧
  ∀ (s : State) (e : CellIx),
    inflowRate s e =
      min (((List.finRange 16).map fun i =>
        let x := s.stream i
        match x.cfg with
        | some c =>
          if (x.credited = .primary ∧ c.primary = .cell e) ∨ (x.credited = .divert ∧ c.divert = some (.cell e)) then x.rate else 0
        | none => 0).sum) 16777215

/-- R18, R19, R20, R21, R126, R138, R153, R170: the last increments go to exactly one account, chosen by the route actuator's confirmed value:
the primary destination, the divert destination, or the unrouted account; every sum stops at its bound, and nothing else changes. A
DRAIN credit is delivered to consumed today with the comparisons of R171, and the delivery that reaches the cap of a loaded permit stops
a release with cause BUDGET (R179; both are stated at `ConsumptionAndStops`). -/
def Obligations.EachStepCreditsOneAccount : Prop :=
  ∀ (s : State) (i : StreamIx) (c : StreamCfg),
    let m := (s.stream i).lastMass
    let v := (s.stream i).lastVol
    let marked (cr : Credited) := s.setStream i { s.stream i with credited := cr }
    let at48 (a b : Nat) := min (a + b) 281474976710655
    let confirmed := (s.actuator c.route).confirmed
    (confirmed = some c.primaryPos → creditStep i c s = creditDest c.primary m v (marked .primary)) ∧
    (∀ d, confirmed ≠ some c.primaryPos → confirmed = some c.divertPos → c.divert = some d →
      creditStep i c s = creditDest d m v (marked .divert)) ∧
    (confirmed ≠ some c.primaryPos → confirmed ≠ some c.divertPos ∨ c.divert = none →
      creditStep i c s =
        { marked .unrouted with accounts :=
          { s.accounts with
            unrouted := { mass := at48 s.accounts.unrouted.mass m, volume := at48 s.accounts.unrouted.volume v } } }) ∧
    (∀ e, creditDest (.cell e) m v s = s.setCell e { s.cell e with inflow := at48 (s.cell e).inflow m }) ∧
    (∀ t, creditDest (.tank t) m v s =
      s.setTank t { s.tank t with fillMass := at48 (s.tank t).fillMass m, fillVol := at48 (s.tank t).fillVol v }) ∧
    creditDest .ret m v s =
      { s with accounts :=
        { s.accounts with ret := { mass := at48 s.accounts.ret.mass m, volume := at48 s.accounts.ret.volume v } } } ∧
    (∀ k, let x := { s.chain k with volume := min ((s.chain k).volume + v) 4294967295 }
      (x.posA.state = .lead →
        creditDest (.chain k) m v s =
          s.setChain k { x with posA := { x.posA with loading := at48 x.posA.loading m } }) ∧
      (x.posA.state ≠ .lead → x.posB.state = .lead →
        creditDest (.chain k) m v s =
          s.setChain k { x with posB := { x.posB with loading := at48 x.posB.loading m } }) ∧
      (x.posA.state ≠ .lead → x.posB.state ≠ .lead →
        creditDest (.chain k) m v s = s.setChain k { x with unplaced := at48 x.unplaced m })) ∧
    (m = 0 → creditDest .drain m v s = s) ∧
    (m ≠ 0 → s.disch.permit = none →
      creditDest .drain m v s = { s with disch := { s.disch with consumed := at48 s.disch.consumed m } }) ∧
    ∀ p, m ≠ 0 → s.disch.permit = some p →
      (at48 s.disch.consumed m < p.cap → creditDest .drain m v s = consume m s) ∧
      (p.cap ≤ at48 s.disch.consumed m → creditDest .drain m v s = stopRelease .budget (consume m s))

/-- R23, R24, R25, R26, R27: what routing makes of an ACTIVE, DIVERTED or FAULT stream whose destinations accept or not, the alert of a change
of state, and the request of the wanted position when the desired value differs from it. A destination accepts by the table of R22, DRAIN by
that of R172. The index figure of DRAIN and RETURN is 0 by log 30. -/
def Obligations.RoutingSettlesTheStream : Prop :=
  ∀ (s : State) (i : StreamIx) (c : StreamCfg),
    let x := s.stream i
    let primary := Accepting s c.primary
    let divert := ∃ d, c.divert = some d ∧ Accepting s d
    let long := c.minDivert ≤ min (x.divertedTime + 1) 3600
    let moved (st : StreamState) (time : Nat) (k : ReportKind) (detail : List Nat) : State :=
      { s.setStream i { x with state := st, divertedTime := time } with
        reports := s.reports.raise (.alert k (.stream i) detail s.clock) }
    (x.state = .active → primary → routeStep i c s = wantPosition c c.primaryPos s) ∧
    (x.state = .fault → primary →
      routeStep i c s =
        wantPosition c c.primaryPos (moved .active x.divertedTime .streamRestored (destFigures c.primary))) ∧
    (∀ d, x.state = .active ∨ x.state = .fault → ¬ primary → c.divert = some d → Accepting s d →
      routeStep i c s = wantPosition c c.divertPos (moved .diverted 0 .streamDiverted (destFigures d))) ∧
    (x.state = .active → ¬ primary → ¬ divert → routeStep i c s = moved .fault x.divertedTime .streamFault [2]) ∧
    (x.state = .fault → ¬ primary → ¬ divert → routeStep i c s = s) ∧
    (x.state = .diverted → primary → long ∨ ¬ divert →
      routeStep i c s = wantPosition c c.primaryPos (moved .active 0 .streamRestored (destFigures c.primary))) ∧
    (x.state = .diverted → divert → ¬ (primary ∧ long) →
      routeStep i c s =
        wantPosition c c.divertPos
          (s.setStream i { x with divertedTime := min (x.divertedTime + 1) 3600 })) ∧
    (x.state = .diverted → ¬ primary → ¬ divert → routeStep i c s = moved .fault 0 .streamFault [3])

/-! ## Points and pins -/

/-- R38, R41, R102: the age timer ages every loaded point that has a reading and makes an over-age GOOD or LIMITED one STALE; a
conversion round gives each ANALOG pin the sample of its input (the voltages as the row carries them, log 27), and the sampling
event takes the points, from P0 to P31 (log 11). R37, R42: what a point makes of a counter value that its consumer hands over, and of a
pin or a counter that is not mapped (cause UNMAPPED, coded 3 by log 13). -/
def Obligations.PointsAgeAndAreSampled : Prop :=
  (∀ s : State, s.inReset = false →
    exec .ageTimerExpiry s =
      .next { s with
        points := s.points.map fun x =>
          match x.cfg with
          | none => x
          | some c =>
            if x.quality = .none then x
            else
              { x with
                age := min (x.age + 1) 65535
                quality :=
                  if c.staleLimit < min (x.age + 1) 65535 ∧ (x.quality = .good ∨ x.quality = .limited) then .stale
                  else x.quality }
        timers := { s.timers with age := 1000 } }) ∧
  (∀ (s s' : State) (l8 l9 l10 l11 : Conversion), s.inReset = false → (∀ c ∈ [l8, l9, l10, l11], 0 < c.reference) →
    let sample (p : PinIx) (c : Conversion) : Pin :=
      if (s.pin p).fn = .analog then
        { s.pin p with
          sample := if c.input < c.reference then BitVec.ofNat 12 (c.input * 4096 / c.reference) else 4095 }
      else s.pin p
    s' = { s with timers := { s.timers with sampling := 100 }, pins := s'.pins } →
    (∀ p : PinIx, p.val < 8 → s'.pin p = s.pin p) →
    s'.pin 8 = sample 8 l8 → s'.pin 9 = sample 9 l9 → s'.pin 10 = sample 10 l10 → s'.pin 11 = sample 11 l11 →
    exec (.analogSamplingRound l8 l9 l10 l11) s =
      .next ((List.finRange 32).foldl (fun s p => samplePoint p s) s')) ∧
  (∀ (s : State) (p : PointIx) (n k : Nat), handCounter p n k s = s.setPoint p (counted n k (s.point p))) ∧
  (∀ (s : State) (p : PointIx),
    ((s.point p).quality = .failed → failPoint p .unmapped s = s) ∧
    ((s.point p).quality ≠ .failed →
      failPoint p .unmapped s =
        { s.setPoint p { s.point p with quality := .failed } with
          reports := s.reports.raise (.alert .pointFailed (.point p) [3] s.clock) })) ∧
  ∀ (s : State) (p : PointIx) (c : PointCfg), (s.point p).cfg = some c →
    (∀ l, c.source = .analog l → (s.pin l).fn = .analog →
      samplePoint p s = takeRaw p (s.pin l).sample.toNat s) ∧
    (∀ l inv d, c.source = .switch l → (s.pin l).fn = .input inv d →
      samplePoint p s =
        acceptReading p (if (s.pin l).debounced then 1000 else 0) .good
          (s.setPoint p { s.point p with lastRaw := (s.pin l).debounced.toNat })) ∧
    ((∃ l, c.source = .analog l ∧ (s.pin l).fn ≠ .analog) ∨
        (∃ l, c.source = .switch l ∧ ∀ inv d, (s.pin l).fn ≠ .input inv d) ∨
        (∃ q k, c.source = .counter q k ∧ counterMapped s q = false) →
      samplePoint p s = failPoint p .unmapped s) ∧
    ((∃ n ch, c.source = .field n ch) ∨ (∃ q k, c.source = .counter q k ∧ counterMapped s q = true) →
      samplePoint p s = s)

/-- R37, R39, R43, R44, R46, R47, R48: what a reading makes of its point. A delivery for a point that is no longer on that node and channel is
discarded; a FAULT status and a missing curve fail the point, with POINT_FAILED on its first entry into FAILED; a converted reading replaces
value, quality and age, is mirrored and is handed on to the testing tanks and then to the Discharge Controller (log 11). The causes are
coded 1 and 4 by log 13. -/
def Obligations.ReadingsReachTheirPoint : Prop :=
  ∀ (s : State) (p : PointIx) (n : NodeIx) (ch : Channel) (raw : Int) (fault : Bool),
    let x := s.point p
    let failed (cause : Nat) : State :=
      if x.quality = .failed then s.setPoint p { x with lastRaw := raw }
      else
        { s.setPoint p { x with lastRaw := raw, quality := .failed } with
          reports := s.reports.raise (.alert .pointFailed (.point p) [cause] s.clock) }
    (¬ OnField s p n ch → deliverReading p n ch raw fault s = s) ∧
    (OnField s p n ch → fault = true → deliverReading p n ch raw fault s = failed 1) ∧
    (OnField s p n ch → fault = false → deliverReading p n ch raw fault s = takeRaw p raw s) ∧
    ∀ c, x.cfg = some c →
      (∀ i, c.curve = some i → s.curve i = [] → takeRaw p raw s = failed 4) ∧
      ∀ v q, ((c.curve = none ∧ (v, q) = kindClamp c.kind (raw.toNat, decide (raw < 0))) ∨
          ∃ i, c.curve = some i ∧ s.curve i ≠ [] ∧ (v, q) = kindClamp c.kind (onCurve raw (s.curve i))) →
        let stored := s.setPoint p { x with value := v, quality := q, age := 0, lastRaw := raw }
        takeRaw p raw s =
          effluentReading p v
            (testSamples p v
              (if c.mirror then { stored with reports := stored.reports.raise (.mirror p v q raw s.clock) } else stored))

/-- R46, R47: a raw reading outside the curve takes the end value, one on a breakpoint its value, one between two breakpoints the
interpolation rounded half away from zero, which lies between them; a value above the kind maximum is held at it; a reading that was
held at an end or a bound is LIMITED, any other GOOD. -/
def Obligations.CurvesConvertRawReadings : Prop :=
  (∀ (c : Curve) (r : Int), CurveInRange c →
    (∀ x y rest, c = (x, y) :: rest → r < x → onCurve r c = (y, true)) ∧
    (∀ x y (front : List (Int × Nat)), c = front ++ [(x, y)] → x < r → onCurve r c = (y, true)) ∧
    (∀ x y, (x, y) ∈ c → onCurve x c = (y, false)) ∧
    (∀ (front : List (Int × Nat)) x0 x1 y0 y1 rest, c = front ++ ((x0, y0) :: (x1, y1) :: rest : List (Int × Nat)) → x0 < r → r < x1 →
      ∃ q : Int, onCurve r c = ((y0 + q).toNat, false) ∧
        2 * (q.natAbs * (x1 - x0).toNat) ≤ 2 * (((y1 : Int) - y0) * (r - x0)).natAbs + (x1 - x0).toNat ∧
        2 * (((y1 : Int) - y0) * (r - x0)).natAbs < 2 * (q.natAbs * (x1 - x0).toNat) + (x1 - x0).toNat ∧
        (0 < q → y0 < y1) ∧ (q < 0 → y1 < y0) ∧
        min y0 y1 ≤ (y0 + q).toNat ∧ (y0 + q).toNat ≤ max y0 y1)) ∧
  ∀ (k : PointKind) (v : Nat) (bound : Bool),
    (kindMax k < v → kindClamp k (v, bound) = (kindMax k, .limited)) ∧
    (v ≤ kindMax k → kindClamp k (v, bound) = (v, if bound then .limited else .good))

/-- R98, R99, R100, R104, R105, R125: the events of the pins: a level change starts the debounce timer of an INPUT or sets its state at
once; the timer's expiry takes the level then present; a qualifying edge raises its counter, with the carry of a cascaded pair; a frame
start latches the pending duty; the high counts of the latched duty by the table of R125; a loaded cell's generator is high for the first
high-count clock periods of each period (its place in the frame by log 27) and an unloaded one's low; a CELL_PWM pin carries that output,
inverted with inverted polarity, and an OUTPUT pin its drive value (R103). Only COUNTER_EDGE counts (log 25). R13, R42, R100, R101: when a
counter is mapped, its value, and the pulse difference of its consumer, modulo 2^32 for a cascaded pair and 2^16 otherwise. -/
def Obligations.PinsFollowTheirEvents : Prop :=
  (∀ (s : State) (q : CounterIx),
    (counterMapped s q = true ↔ Mapped s q) ∧
    (¬ Cascaded s q → counterValue s q = (s.counter q).toNat) ∧
    (∀ r : CounterIx, Cascaded s q → q.val % 2 = 0 → r.val = q.val + 1 →
      counterValue s q = (s.counter r).toNat * 65536 + (s.counter q).toNat) ∧
    ∀ snapshot : Nat,
      (¬ Cascaded s q →
        pulsesSince s q snapshot < 2 ^ 16 ∧ (snapshot + pulsesSince s q snapshot) % 2 ^ 16 = counterValue s q % 2 ^ 16) ∧
      (Cascaded s q →
        pulsesSince s q snapshot < 2 ^ 32 ∧ (snapshot + pulsesSince s q snapshot) % 2 ^ 32 = counterValue s q % 2 ^ 32)) ∧
  ∀ (s : State) (p : PinIx) (level : Bool),
    (∀ inv, (s.pin p).fn = .input inv 0 →
      exec (.pinLevelChange p level) s =
        .next (s.setPin p { s.pin p with level := level, debounced := xor level inv })) ∧
    (∀ inv d, (s.pin p).fn = .input inv d → d ≠ 0 →
      exec (.pinLevelChange p level) s = .next (s.setPin p { s.pin p with level := level, debounce := some d })) ∧
    ((∀ inv d, (s.pin p).fn ≠ .input inv d) →
      exec (.pinLevelChange p level) s = .next (s.setPin p { s.pin p with level := level })) ∧
    (∀ inv d ms, s.inReset = false → (s.pin p).fn = .input inv d → (s.pin p).debounce = some ms →
      exec (.debounceTimerExpiry p) s =
        .next (s.setPin p { s.pin p with debounced := xor (s.pin p).level inv, debounce := none })) ∧
    (∀ q edge cascade, s.inReset = false → (s.pin p).fn = .counter q edge cascade →
      let seen := s.setPin p { s.pin p with level := level }
      let counts := edge = .both ∨ (edge = .rising ∧ level = true) ∨ (edge = .falling ∧ level = false)
      (¬ counts → exec (.counterEdge p level) s = .next seen) ∧
      (counts → cascade = false ∨ s.counter q ≠ 65535 →
        exec (.counterEdge p level) s = .next (seen.setCounter q (s.counter q + 1))) ∧
      (counts → cascade = true → oddPartner q ≠ q → s.counter q = 65535 →
        exec (.counterEdge p level) s =
          .next ((seen.setCounter q 0).setCounter (oddPartner q) (s.counter (oddPartner q) + 1)))) ∧
    (∀ e c, s.inReset = false → (s.cell e).cfg = some c →
      exec (.pwmFrameStart e) s = .next (s.setCell e { s.cell e with latchedDuty := (s.cell e).pendingDuty })) ∧
    (∀ d, d ≤ 1023 →
      highCount d 0 + highCount d 1 + highCount d 2 + highCount d 3 = d ∧ ∀ n, n < 4 → highCount d n ≤ 256) ∧
    (∀ b e, e < 4 →
      highCount (4 * b + e) 0 = (if e = 0 then b else b + 1) ∧ highCount (4 * b + e) 1 = (if e = 3 then b + 1 else b) ∧
        highCount (4 * b + e) 2 = (if e = 2 ∨ e = 3 then b + 1 else b) ∧ highCount (4 * b + e) 3 = b) ∧
    ∀ (e : CellIx) (n c : Nat),
      (generatorOutput (s.cell e) n c = true ↔ (∃ x, (s.cell e).cfg = some x) ∧ c < highCount (s.cell e).latchedDuty n) ∧
      ∀ inv, ((s.pin p).fn = .cellPwm e inv → pinLevel s n c p = xor (generatorOutput (s.cell e) n c) inv) ∧
        ((s.pin p).fn = .output inv → pinLevel s n c p = xor (s.pin p).drive inv)

/-! ## Reports -/

/-- R183, R186, R187: an alert whose kind and object are queued takes that entry's place, class kept; any other report joins as the youngest;
into a full queue it displaces the oldest entry of the highest class present when that class is numbered above its own, and is dropped
otherwise, and the gap flag is set. The class map's index of each kind is that of 10.2. -/
def Obligations.ReportsCoalesceOrAreAdmitted : Prop :=
  (∀ k : ReportKind, (kindIx k).val = reportKinds.idxOf k) ∧
  ∀ (q : ReportQueue) (r : Report),
    let cls : Sys2Proof.Class := match r with
      | .alert k .. => q.classMap[kindIx k]
      | .batch .. => q.classMap[20]
      | .day .. => q.classMap[12]
      | .mirror .. => 3
    let new : Entry := { report := r, cls := cls }
    let coalesces := ∃ e ∈ q.entries, (alertKey r).isSome = true ∧ alertKey e.report = alertKey r
    (∀ older e younger, q.entries = older ++ e :: younger → (alertKey r).isSome = true →
      alertKey e.report = alertKey r → (∀ x ∈ older ++ younger, alertKey x.report ≠ alertKey r) →
      q.raise r = { q with entries := older ++ { report := r, cls := e.cls } :: younger }) ∧
    (¬ coalesces → q.entries.length < 32 → q.raise r = { q with entries := q.entries ++ [new] }) ∧
    (∀ older e younger, ¬ coalesces → 32 ≤ q.entries.length → q.entries = older ++ e :: younger → cls < e.cls →
      (∀ x ∈ q.entries, x.cls ≤ e.cls) → (∀ x ∈ older, x.cls ≠ e.cls) →
      q.raise r = { q with entries := older ++ younger ++ [new], gap := true }) ∧
    (¬ coalesces → 32 ≤ q.entries.length → (∀ x ∈ q.entries, x.cls ≤ cls) → q.raise r = { q with gap := true })

/-! ## Cells and chains -/

/-- R113, R118 to R124, R127: a regulation of a RUN cell. A usable voltage above the limit folds back, or counts at fold-back 6; one below the
hysteresis band folds out; without a usable voltage the cell counts a miss. The tenth high count and the third miss fault the cell,
with no duty and no charge; otherwise the cell is driven. A point is usable when it is loaded and GOOD, LIMITED or STALE. -/
def Obligations.RegulationDrivesOrFaultsTheCell : Prop :=
  (∀ p : Point, usable p = true ↔ (∃ c, p.cfg = some c) ∧ (p.quality = .good ∨ p.quality = .limited ∨ p.quality = .stale)) ∧
  ∀ (s : State) (e : CellIx) (c : CellCfg) (ms : Nat), s.inReset = false → (s.cell e).cfg = some c →
    (s.cell e).state = .run → (s.cell e).regTimer = some ms →
    let x := s.cell e
    let rate := inflowRate s e
    let v := (s.point c.voltPoint).value
    let seen := usable (s.point c.voltPoint) = true
    let goesOn (fold high miss : Nat) : Prop :=
      let y := { drivenCell c rate fold x with high := high, miss := miss }
      exec (.regulationTimerExpiry e) s =
        .next { s.setCell e y with reports := harvestReported s e c x.plated y.plated }
    let faults (reason : CellFault) (code high miss : Nat) : Prop :=
      exec (.regulationTimerExpiry e) s =
        .next { s.setCell e
            { stoppedCell .fault x with fault := reason, inflowRate := rate, high := high, miss := miss } with
          reports := s.reports.raise (.alert .cellFault (.cell e) [code] s.clock) }
    (seen → c.vLimit < v → x.fold < 6 → goesOn (x.fold + 1) x.high 0) ∧
    (seen → c.vLimit < v → 6 ≤ x.fold → x.high < 9 → goesOn x.fold (x.high + 1) 0) ∧
    (seen → c.vLimit < v → 6 ≤ x.fold → 9 ≤ x.high → faults .sulfideRisk 1 (x.high + 1) 0) ∧
    (seen → v < c.vLimit - c.vHyst → goesOn (x.fold - 1) 0 0) ∧
    (seen → c.vLimit - c.vHyst ≤ v → v ≤ c.vLimit → goesOn x.fold 0 0) ∧
    (¬ seen → x.miss < 2 → goesOn x.fold x.high (x.miss + 1)) ∧
    (¬ seen → 2 ≤ x.miss → faults .senseLost 2 x.high (x.miss + 1))

/-- R120: the target current is the inflow rate × F / 1024 rounded half up, held within I_min to I_max; at inflow rate 0 it is I_min.
The inflow rate itself (of R119) is the sum of the rates of the streams whose credited destination is the cell, held at 16,777,215: PRIMARY
with that cell as primary or DIVERT with it as divert. A stream that is not so credited (unloaded, NONE, UNROUTED or another destination)
leaves it as it is. -/
def Obligations.TargetCurrentFollowsTheInflow : Prop :=
  (∀ (c : CellCfg) (rate : Nat), c.InRange →
    let exact := (2 * (rate * c.factor) + 1024) / 2048
    (exact < c.iMin → targetCurrent c rate = c.iMin) ∧ (c.iMax < exact → targetCurrent c rate = c.iMax) ∧
    (c.iMin ≤ exact → exact ≤ c.iMax → targetCurrent c rate = exact) ∧ targetCurrent c 0 = c.iMin) ∧
  ∀ (s : State) (e : CellIx),
    ((∀ i, ¬ CreditedTo e (s.stream i)) → inflowRate s e = 0) ∧
    (∀ i, ¬ CreditedTo e (s.stream i) → ∀ x, ¬ CreditedTo e x → inflowRate (s.setStream i x) e = inflowRate s e) ∧
    ∀ i x, ¬ CreditedTo e (s.stream i) → CreditedTo e x →
      inflowRate (s.setStream i x) e = min (inflowRate s e + x.rate) 16777215

/-- R137, R139 to R142: the metering of a chain: its tail mass; with a LEAD the breakthrough run, and the order actuator's request when its
desired value is not the lead's; a lead that has broken through or reached its share of the capacity is SPENT, the LAG behind it becomes
LEAD with CARTRIDGE_SPENT, or the chain is exhausted with CHAIN_EXHAUSTED. Stated for a chain with at most one LEAD. -/
def Obligations.ChainMeteringSpendsTheLead : Prop :=
  ∀ (s : State) (k : ChainIx) (c : ChainCfg) (ms : Nat) (ct : Option Nat), s.inReset = false →
    (s.chain k).cfg = some c → (s.chain k).metering = some ms →
    ct = (match c.tail with
      | none => none
      | some p => if usable (s.point p) then some (s.point p).value else none) →
    let x := tailMetered ct (s.chain k)
    let value (isA : Bool) : Nat := if isA then c.aFirst else c.bFirst
    (¬ HasLead s k → exec (.chainMetering k) s = .next (s.setChain k x)) ∧
    ∀ isA : Bool, (posOf (s.chain k) isA).state = .lead → (posOf (s.chain k) (!isA)).state ≠ .lead →
      let lead := posOf x isA
      let run := runAfterMetering c ct x.run
      let broken := c.count ≤ run
      let full := lead.capacity * c.swap ≤ lead.loading * 1000
      (¬ broken → ¬ full →
        exec (.chainMetering k) s =
          .next
            (if (s.actuator c.order).desired = value isA then s.setChain k { x with run := run }
             else ownerRequest c.order (value isA) (s.setChain k { x with run := run }))) ∧
      (broken ∨ full →
        ∀ cause : Nat, (broken ∧ ¬ full ∧ cause = 1) ∨ (¬ broken ∧ full ∧ cause = 2) ∨ (broken ∧ full ∧ cause = 3) →
        let detail := [if isA then 1 else 2, cause, lead.loading, lead.capacity]
        let spent := setPos { x with run := 0 } isA { lead with state := .spent }
        ((posOf (s.chain k) (!isA)).state = .lag →
          let swapped := ownerRequest c.order (value (!isA))
            (s.setChain k (setPos spent (!isA) { posOf x (!isA) with state := .lead }))
          let told := { swapped with
            reports := swapped.reports.raise (.alert .cartridgeSpent (.chain k) detail s.clock) }
          exec (.chainMetering k) s =
            .next
              (if (told.actuator c.order).desired = value (!isA) then told
               else ownerRequest c.order (value (!isA)) told)) ∧
        ((posOf (s.chain k) (!isA)).state ≠ .lag →
          exec (.chainMetering k) s =
            .next { s.setChain k spent with
              reports := s.reports.raise (.alert .chainExhausted (.chain k) detail s.clock) }))

/-! ## Tanks -/

/-- R154, R155, R156, R158, R163: the metering of a tank by its state: a FILLING tank at its high level closes its fill, a TESTING tank with
a deferred decision decides it, a REWORK tank meters its outflow and then ends at its low level or evaluates its pause; any other metering
only starts the timer again. The dwell timer's expiry moves a MIXING tank to TESTING. -/
def Obligations.TankMeteringFollowsTheState : Prop :=
  ∀ (s : State) (t : TankIx) (c : TankCfg) (ms : Nat), s.inReset = false → (s.tank t).cfg = some c →
    ((s.tank t).metering = some ms →
      let x := { s.tank t with metering := some 1000 }
      let s' := s.setTank t x
      let level := s.point c.levelPoint
      let closes := x.state = .filling ∧ usable level = true ∧ c.high ≤ level.value
      let decides := x.state = .testing ∧ x.deferred = true ∧ usable level = true
      (¬ closes → ¬ decides → x.state ≠ .rework → exec (.tankMetering t) s = .next s') ∧
      (closes → c.dwell ≠ 0 →
        exec (.tankMetering t) s =
          .next (tankRequest t (s.setTank t
            { closedTank t x with state := .mixing, dwell := some (c.dwell * 1000) }))) ∧
      (closes → c.dwell = 0 →
        exec (.tankMetering t) s = .next (tankRequest t (s.setTank t (testingTank c (closedTank t x))))) ∧
      (decides → exec (.tankMetering t) s = .next (testDecision t c s')) ∧
      (x.state = .rework →
        let out := reworkOutflow t c s'
        let low := usable (out.point c.levelPoint) = true ∧ (out.point c.levelPoint).value ≤ c.low
        (low → exec (.tankMetering t) s = .next (endRework t out)) ∧
        (¬ low → reworkPaused out c = (out.tank t).paused → exec (.tankMetering t) s = .next out) ∧
        (¬ low → reworkPaused out c = true → (out.tank t).paused = false → (out.tank t).state = .rework →
          exec (.tankMetering t) s =
            .next (ownerRequest c.rework.act c.rework.closed (out.setTank t { out.tank t with paused := true }))) ∧
        (¬ low → reworkPaused out c = false → (out.tank t).paused = true → (out.tank t).state = .rework →
          exec (.tankMetering t) s =
            .next (ownerRequest c.rework.act c.rework.opened (out.setTank t { out.tank t with paused := false }))))) ∧
    ((s.tank t).state = .mixing → (s.tank t).dwell = some ms →
      exec (.dwellTimerExpiry t) s = .next (tankRequest t (s.setTank t (testingTank c (s.tank t)))))

/-- R161, R163: an outlet reading of a FIELD or ANALOG point gives its value, one of a mapped counter the pulses since the snapshot at the
K-factor with the volume residue, and its value is stored in the point and handed on (R42, R44); its mass is formed with the mass residue
and credited to the rework destination. An outlet that is not available credits nothing, and a counter's point then fails. The end of a
rework makes the batch REWORKED and the tank FILLING. R150, R162: entry into REWORK sets the cause, the outlet snapshot and the pause flag,
requests the valves, and raises TANK_REWORK and a BATCH report. -/
def Obligations.ReworkEntersMetersAndEnds : Prop :=
  (∀ (s : State) (t : TankIx) (c : TankCfg) (b : Batch), (s.tank t).cfg = some c → (s.tank t).batch = some b →
    let p := s.point c.outletPoint
    let x := s.tank t
    let credited (w : Nat) (y : Tank) (s' : State) : State :=
      let kept := s'.setTank t { y with outMassResidue := (b.conc * w + x.outMassResidue) % 1000 }
      match c.reworkDest with
      | .chain k => creditChain k ((b.conc * w + x.outMassResidue) / 1000) w kept
      | .ret => creditReturn ((b.conc * w + x.outMassResidue) / 1000) w kept
    (NoCounter s c.outletPoint → usable p = true → reworkOutflow t c s = credited (min p.value 16777215) x s) ∧
    (NoCounter s c.outletPoint → usable p = false → reworkOutflow t c s = s) ∧
    (∀ q k, OnCounter s c.outletPoint q k → counterMapped s q = true → x.state = .rework →
      let n := pulsesSince s q x.outSnapshot
      let y := { x with outVolResidue := (n * k + x.outVolResidue) % 100, outSnapshot := counterValue s q }
      let point := counted n k p
      reworkOutflow t c s =
        credited (min ((n * k + x.outVolResidue) / 100) 16777215) y
          (effluentReading c.outletPoint point.value
            (testSamples c.outletPoint point.value ((s.setTank t y).setPoint c.outletPoint point)))) ∧
    (∀ q k, OnCounter s c.outletPoint q k → counterMapped s q = false →
      reworkOutflow t c s = failPoint c.outletPoint .unmapped (s.setTank t { x with outSnapshot := 0 })) ∧
    endRework t s =
      tankRequest t
        { s.setTank t { x with batch := some { b with outcome := .reworked }, paused := false, state := .filling } with
          reports := s.reports.raise (.batch .reworked { b with outcome := .reworked } s.clock) }) ∧
  ∀ (s : State) (t : TankIx) (c : TankCfg) (b : Batch) (cause : ReworkCause) (snapshot : Nat) (paused : Bool),
    (s.tank t).cfg = some c → (s.tank t).batch = some b →
    (∀ q k, OnCounter s c.outletPoint q k →
      snapshot = if counterMapped s q then counterValue s q else 0) →
    (NoCounter s c.outletPoint → snapshot = 0) →
    (paused = false ↔
      (∀ k, c.reworkDest = .chain k → Accepting s (.chain k)) ∧
      (∀ q k, OnCounter s c.outletPoint q k → counterMapped s q = true) ∧
      (NoCounter s c.outletPoint → usable (s.point c.outletPoint) = true)) →
    let moved := tankRequest t (s.setTank t
      { s.tank t with
        batch := some { b with cause := cause }, outSnapshot := snapshot, paused := paused, state := .rework })
    enterRework t cause s =
      { moved with
        reports :=
          (moved.reports.raise (.alert .tankRework (.tank t) [reworkCauseCode cause, b.number] s.clock)).raise
            (.batch .rework { b with cause := cause } s.clock) }

/-- R157, R158, R159, R160, R162: a TESTING tank counts a reading of its silver or pH point while that count is short of n, and ignores any
other; the reading that completes both makes the decision, or defers it without a usable level. A batch that passes the permit is QUEUED at
the tail of the release queue with a BATCH report; a batch that fails, and one at test timeout, goes to REWORK with its cause. A reading
that is handed on reaches the tanks from T0 to T3 (log 11). -/
def Obligations.TestsDecideTheBatch : Prop :=
  (∀ (s : State) (p : PointIx) (v : Nat),
    testSamples p v s = testSample p v 3 (testSample p v 2 (testSample p v 1 (testSample p v 0 s)))) ∧
  ∀ (s : State) (t : TankIx) (c : TankCfg) (b : Batch), (s.tank t).cfg = some c → (s.tank t).batch = some b →
    (∀ (p : PointIx) (v : Nat), (s.tank t).state = .testing → p = c.silverPoint → (s.tank t).silverSamples < c.samples →
      let y := { s.tank t with
        silverSamples := (s.tank t).silverSamples + 1, batch := some { b with conc := max b.conc v } }
      let complete := y.silverSamples = c.samples ∧ y.phSamples = c.samples
      (¬ complete → testSample p v t s = s.setTank t y) ∧
      (complete → usable (s.point c.levelPoint) = true → testSample p v t s = testDecision t c (s.setTank t y)) ∧
      (complete → usable (s.point c.levelPoint) = false → testSample p v t s = s.setTank t { y with deferred := true })) ∧
    (∀ (p : PointIx) (v : Nat), (s.tank t).state = .testing → p = c.phPoint → p ≠ c.silverPoint →
      (s.tank t).phSamples < c.samples →
      let y := { s.tank t with
        phSamples := (s.tank t).phSamples + 1
        batch := some { b with phMin := min b.phMin v, phMax := max b.phMax v } }
      let complete := y.silverSamples = c.samples ∧ y.phSamples = c.samples
      (¬ complete → testSample p v t s = s.setTank t y) ∧
      (complete → usable (s.point c.levelPoint) = true → testSample p v t s = testDecision t c (s.setTank t y)) ∧
      (complete → usable (s.point c.levelPoint) = false → testSample p v t s = s.setTank t { y with deferred := true })) ∧
    (∀ (p : PointIx) (v : Nat),
      (s.tank t).state ≠ .testing ∨
        ((p = c.silverPoint → c.samples ≤ (s.tank t).silverSamples) ∧ (p = c.phPoint → c.samples ≤ (s.tank t).phSamples)) →
      testSample p v t s = s) ∧
    (let d := decidedBatch (s.point c.levelPoint).value c.capacity b
     let decided := s.setTank t { s.tank t with test := none, deferred := false, batch := some d }
     (s.disch.permit = none → testDecision t c s = enterRework t .noPermit decided) ∧
     ∀ permit, s.disch.permit = some permit →
       let passes := d.conc ≤ permit.concCap ∧ permit.phLow ≤ d.phMin ∧ d.phMax ≤ permit.phHigh
       (¬ passes → testDecision t c s = enterRework t .testFailed decided) ∧
       (passes →
         let queued := tankRequest t (decided.setTank t { decided.tank t with state := .queued })
         testDecision t c s =
           { queued with
             disch := { s.disch with queue := s.disch.queue ++ [t] }
             reports := queued.reports.raise (.batch .queued d s.clock) })) ∧
    ∀ ms, s.inReset = false → (s.tank t).state = .testing → (s.tank t).test = some ms →
      exec (.testTimerExpiry t) s = .next (enterRework t .timeout (s.setTank t { s.tank t with test := none }))

/-! ## Discharge -/

/-- R168, R169, R175: the discharge timer counts the clock with its rollover, then meters the release, then evaluates the queue. -/
def Obligations.DischargeTimerTakesItsParts : Prop :=
  ∀ s : State, s.inReset = false →
    (∀ counted : State,
      (s.disch.clock = none → counted = s) →
      (∀ day sec, s.disch.clock = some { day := day, sec := sec } →
        ∀ next : ClockTime,
          next = (if sec < 86399 then { day := day, sec := sec + 1 }
            else { day := if day < 65535 then day + 1 else 0, sec := 0 }) → day ≤ 65535 →
          let after := dayOf s.disch.permit (some next)
          ((s.disch.permitDay = none ∨ after = none ∨ s.disch.permitDay = after) →
            counted = { s with disch := { s.disch with clock := some next, permitDay := after } }) ∧
          ∀ p old new, s.disch.permit = some p → s.disch.permitDay = some old → after = some new → old ≠ new →
            counted = { s with
              reports :=
                s.reports.raise (.day old s.disch.consumed p.cap s.disch.released s.disch.peak (some next))
              disch :=
                { s.disch with
                  clock := some next, permitDay := some new, consumed := 0, released := 0, peak := 0,
                  lowAlerted := false, exhaustedAlerted := false } }) →
      (∀ day sec, s.disch.clock = some { day := day, sec := sec } → day ≤ 65535) →
      exec .dischargeTimerExpiry s =
        .next (evaluateQueue (meterReleasing { counted with timers := { s.timers with discharge := 1000 } })))

/-- R167, R172, R174, R176, R177: the release evaluation: a head above the cap goes to REWORK with cause OVER_CAP and the evaluation goes
on; a head that the drain condition and the remaining budget allow leaves the queue and becomes RELEASING while no other tank is; any other
head waits. A release whose drain is bound to a pin that is not mapped OUTPUT stops again at once (R80, R179; log 24). -/
def Obligations.EvaluationReleasesTheHead : Prop :=
  ∀ (s : State) (t : TankIx) (rest : List TankIx),
    (s.disch.queue = [] → evaluateQueue s = s) ∧
    (s.disch.queue = t :: rest →
      let estimate := match (s.tank t).batch with
        | some b => b.estimate - b.released
        | none => 0
      let above := ∃ p, s.disch.permit = some p ∧ p.cap < estimate
      let allowed := releasingTank s = none ∧ DrainOpen s ∧
        ∃ p, s.disch.permit = some p ∧ estimate ≤ p.cap - s.disch.consumed
      let left := { s with disch := { s.disch with queue := rest } }
      (above → evaluateQueue s = evaluateQueue (enterRework t .overCap left)) ∧
      (¬ above → ¬ allowed → evaluateQueue s = s) ∧
      (∀ c snapshot, ¬ above → allowed → (s.tank t).cfg = some c →
        (∀ q k, OnCounter s c.outletPoint q k → snapshot = if counterMapped s q then counterValue s q else 0) →
        (NoCounter s c.outletPoint → snapshot = 0) →
        let moved := tankRequest t (left.setTank t { s.tank t with state := .releasing })
        let started := moved.setTank t { s.tank t with state := .releasing, outSnapshot := snapshot }
        (∀ n ch safe, (s.actuator c.drain.act).cfg = some { binding := .field n ch, safe := safe } →
          evaluateQueue s = started) ∧
        (∀ p safe, (s.actuator c.drain.act).cfg = some { binding := .pin p, safe := safe } →
          (isOutput (s.pin p).fn = true → evaluateQueue s = started) ∧
          (isOutput (s.pin p).fn = false → evaluateQueue s = afterStop t 3 started)) ∧
        ((s.actuator c.drain.act).cfg = none → evaluateQueue s = started)))

/-- R161, R170, R177, R178: the metering of a release. A usable FIELD or ANALOG outlet gives its value, a mapped counter its pulses with the
volume residue, its value being stored and handed on first (R42, R44). The outflow mass joins the released mass and consumed today; at
the low level the release completes, else at the cap it stops with cause BUDGET. An outlet that is not available stops it with cause
METER_LOST. Where the value handed on has stopped the release itself, the outflow is delivered and nothing more (log 37). With no tank
RELEASING nothing is metered. -/
def Obligations.ReleaseMeteringCompletesOrStops : Prop :=
  ∀ s : State, (releasingTank s = none → meterReleasing s = s) ∧
    ∀ (t : TankIx) (c : TankCfg) (b : Batch), releasingTank s = some t → (s.tank t).cfg = some c →
      (s.tank t).batch = some b →
      let outlet := s.point c.outletPoint
      let x := s.tank t
      (NoCounter s c.outletPoint → usable outlet = false → meterReleasing s = stopRelease .meterLost s) ∧
      (∀ q k, OnCounter s c.outletPoint q k → counterMapped s q = false →
        meterReleasing s =
          stopRelease .meterLost (failPoint c.outletPoint .unmapped (s.setTank t { x with outSnapshot := 0 }))) ∧
      ∀ (w : Nat) (read : State),
        (NoCounter s c.outletPoint ∧ usable outlet = true ∧ w = min outlet.value 16777215 ∧ read = s) ∨
          (∃ q k, OnCounter s c.outletPoint q k ∧ counterMapped s q = true ∧
            let n := pulsesSince s q x.outSnapshot
            let point := counted n k outlet
            w = min ((n * k + x.outVolResidue) / 100) 16777215 ∧
            read =
              effluentReading c.outletPoint point.value
                (testSamples c.outletPoint point.value
                  ((s.setTank t
                    { x with outVolResidue := (n * k + x.outVolResidue) % 100, outSnapshot := counterValue s q }).setPoint
                      c.outletPoint point))) →
        let sum := b.conc * w + x.outMassResidue
        let delivered (b : Batch) : Batch := { b with released := min (b.released + sum / 1000) 281474976710655 }
        let metered := consume (sum / 1000)
          (read.setTank t
            { read.tank t with outMassResidue := sum % 1000, batch := (read.tank t).batch.map delivered })
        let low := usable (read.point c.levelPoint) = true ∧ (read.point c.levelPoint).value ≤ c.low
        let capped := ∃ p, s.disch.permit = some p ∧ p.cap ≤ metered.disch.consumed
        ((read.tank t).state ≠ .releasing → meterReleasing s = metered) ∧
        ((read.tank t).state = .releasing →
          (¬ low → ¬ capped → meterReleasing s = metered) ∧
          (¬ low → capped → meterReleasing s = stopRelease .budget metered) ∧
          (low →
            let done := { delivered b with outcome := .released }
            let filled := tankRequest t
              { metered.setTank t { metered.tank t with batch := some done, state := .filling } with
                disch := { metered.disch with released := min (metered.disch.released + 1) 65535 } }
            meterReleasing s =
              { filled with reports := filled.reports.raise (.batch .released done s.clock) }))

/-- R170, R171, R173, R179: an addition to consumed today stops at 2^48 − 1 and raises BUDGET_LOW, then BUDGET_EXHAUSTED, each once a permit
day; every stop but EFFLUENT puts the tank back at the head of the queue with RELEASE_STOPPED. An effluent reading raises the peak; one
within the caps does no more, one that breaks them raises EFFLUENT_HIGH and sends the RELEASING tank to REWORK, with RELEASE_STOPPED,
TANK_REWORK and BATCH in this order. The cause and limit codes are log 13's. -/
def Obligations.ConsumptionAndStops : Prop :=
  (∀ (s : State) (m : Nat), m = 0 → consume m s = s) ∧
  (∀ (s : State) (m : Nat), m ≠ 0 → s.disch.permit = none →
    consume m s = { s with disch := { s.disch with consumed := min (s.disch.consumed + m) 281474976710655 } }) ∧
  (∀ (s : State) (m : Nat) (p : PermitCfg), m ≠ 0 → s.disch.permit = some p →
    let total := min (s.disch.consumed + m) 281474976710655
    let left := p.cap - total
    let low := s.disch.lowAlerted = false ∧ p.lowPermille ≠ 0 ∧ left * 1000 < p.lowPermille * p.cap
    let out := s.disch.exhaustedAlerted = false ∧ p.cap ≤ total
    ∀ q1 q2 : ReportQueue,
      (low → q1 = s.reports.raise (.alert .budgetLow .permit [left, p.cap] s.clock)) → (¬ low → q1 = s.reports) →
      (out → q2 = q1.raise (.alert .budgetExhausted .permit [total, p.cap] s.clock)) → (¬ out → q2 = q1) →
      consume m s =
        { s with
          reports := q2
          disch :=
            { s.disch with
              consumed := total
              lowAlerted := s.disch.lowAlerted || decide low
              exhaustedAlerted := s.disch.exhaustedAlerted || decide out } }) ∧
  (∀ (s : State) (cause : StopCause), releasingTank s = none → stopRelease cause s = s) ∧
  (∀ (s : State) (cause : StopCause) (code : Nat) (t : TankIx),
    (cause, code) ∈ [(.budget, 1), (.meterLost, 2), (.drainFailed, 3), (.fallback, 4), (.safeHold, 5)] →
    releasingTank s = some t → stopRelease cause s = afterStop t code s) ∧
  (∀ (s : State) (p : PointIx) (v : Nat),
    (∀ permit, s.disch.permit = some permit → permit.silverPoint ≠ p ∧ permit.phPoint ≠ p) → effluentReading p v s = s) ∧
  (∀ (s : State) (p : PointIx) (v : Nat) (permit : PermitCfg), s.disch.permit = some permit →
    (permit.silverPoint = p → permit.phPoint ≠ p → v ≤ permit.concCap →
      effluentReading p v s = { s with disch := { s.disch with peak := max s.disch.peak v } }) ∧
    (permit.phPoint = p → permit.silverPoint ≠ p → permit.phLow ≤ v → v ≤ permit.phHigh → effluentReading p v s = s)) ∧
  (∀ (s : State) (p : PointIx) (v limit : Nat) (permit : PermitCfg), s.disch.permit = some permit →
    (permit.silverPoint = p ∧ permit.phPoint ≠ p ∧ permit.concCap < v ∧ limit = 1) ∨
      (permit.phPoint = p ∧ permit.silverPoint ≠ p ∧ v < permit.phLow ∧ limit = 2) ∨
      (permit.phPoint = p ∧ permit.silverPoint ≠ p ∧ permit.phLow ≤ v ∧ permit.phHigh < v ∧ limit = 3) →
    effluentReading p v s =
      stopRelease .effluent
        { s with
          disch := if permit.silverPoint = p then { s.disch with peak := max s.disch.peak v } else s.disch
          reports := s.reports.raise (.alert .effluentHigh (.point p) [v, limit] s.clock) }) ∧
  ∀ (s : State) (t : TankIx) (c : TankCfg) (b : Batch) (snapshot : Nat) (paused : Bool),
    releasingTank s = some t → (s.tank t).cfg = some c → (s.tank t).batch = some b →
    (∀ q k, OnCounter s c.outletPoint q k → snapshot = if counterMapped s q then counterValue s q else 0) →
    (NoCounter s c.outletPoint → snapshot = 0) →
    (paused = false ↔
      (∀ k, c.reworkDest = .chain k → Accepting s (.chain k)) ∧
      (∀ q k, OnCounter s c.outletPoint q k → counterMapped s q = true) ∧
      (NoCounter s c.outletPoint → usable (s.point c.outletPoint) = true)) →
    let reworked := { b with cause := .effluent }
    let moved := tankRequest t (s.setTank t
      { s.tank t with batch := some reworked, outSnapshot := snapshot, paused := paused, state := .rework })
    stopRelease .effluent s =
      { moved with
        reports :=
          ((moved.reports.raise
            (.alert .releaseStopped (.tank t) [6, b.number, b.estimate - b.released] s.clock)).raise
            (.alert .tankRework (.tank t) [5, b.number] s.clock)).raise
            (.batch .rework reworked s.clock) }

/-! ## Invariants -/

/-- R186, R187: every step keeps the Report Queue at no more than 32 reports and never two ALERTs of the same kind for the same object.
R193, R66: it keeps at most four requests and four QUEUE_FULL answers waiting, and at most four pass-through sets, none while FALLBACK or
SAFE-HOLD holds. -/
def Obligations.StepsKeepTheQueues : Prop :=
  ∀ s t : State, step s = .next t →
    (ReportsInv s → ReportsInv t) ∧ (RequestsInv s → RequestsInv t) ∧ (PassInv s → PassInv t)

/-- R65: every step keeps each actuator at most once in the control set queue, and only PENDING ones. -/
def Obligations.StepsKeepTheControlQueue : Prop :=
  ∀ s t : State, ControlInv s → step s = .next t → ControlInv t

/-- R54, R55, R58, R60, R68, R110, R111, R121, R122, R134: every step keeps the counts of the field line and of every cell in their ranges,
the duty of a cell that is not RUN at 0, and every chain with at most one LEAD and a LAG only behind it. R13, R15, R16, R21, R126, R127,
R133, R140, R148, R161, R170: it keeps every residue below its divisor, and every sum within its width. -/
def Obligations.StepsKeepEveryCountInRange : Prop :=
  ∀ s t : State, step s = .next t →
    (LineInv s → LineInv t) ∧ (CellsInv s → CellsInv t) ∧ (ChainsInv s → ChainsInv t) ∧ (ResiduesInv s → ResiduesInv t) ∧
      (SumsInv s → SumsInv t)

/-- R174: every step keeps the release queue a list of distinct QUEUED tanks, and at most one tank RELEASING. -/
def Obligations.StepsKeepTheReleaseQueue : Prop :=
  ∀ s t : State, ReleaseInv s → step s = .next t → ReleaseInv t
end

