-- ==== Sys2Proof/Laws/Bytes.lean ====
section
/-! SUPPORT. Reading back what `be` has coded (R205): the number that the bytes of `x` in `n` bytes spell is `x`, and a field of a record
that is written as a chain of `be`s is found by its offset. -/

namespace Sys2Proof.Machine

@[simp] theorem be_length (n x : Nat) : (be n x).length = n := by
  induction n with
  | zero => rfl
  | succ n ih => simp [be, ih]

theorem beVal_append (a b : List Byte) : beVal (a ++ b) = beVal a * 256 ^ b.length + beVal b := by
  have key : ∀ (b : List Byte) (x : Nat),
      b.foldl (fun acc c => 256 * acc + c.toNat) x = x * 256 ^ b.length + b.foldl (fun acc c => 256 * acc + c.toNat) 0 := by
    intro b
    induction b with
    | nil => intro x; simp
    | cons c b ih =>
      intro x
      rw [List.foldl_cons, ih, List.foldl_cons, ih (256 * 0 + c.toNat)]
      simp only [List.length_cons, Nat.pow_succ]
      ring
  simp only [beVal, List.foldl_append]
  exact key b _

/-- The bytes of `x` spell `x`, within `n` bytes. -/
theorem beVal_be (n x : Nat) : beVal (be n x) = x % 256 ^ n := by
  induction n with
  | zero => simp [be, beVal, Nat.mod_one]
  | succ n ih =>
    have : be (n + 1) x = [BitVec.ofNat 8 (x / 256 ^ n)] ++ be n x := rfl
    rw [this, beVal_append, ih, be_length]
    have : beVal [BitVec.ofNat 8 (x / 256 ^ n)] = x / 256 ^ n % 256 := by simp [beVal]
    rw [this, Nat.pow_succ, Nat.mod_mul]
    ring

/-- A field before which whole bytes stand. -/
theorem fieldAt_append_of_le {a b : List Byte} {off n : Nat} (h : a.length ≤ off) :
    fieldAt (a ++ b) off n = fieldAt b (off - a.length) n := by
  simp [fieldAt, List.drop_append, List.drop_of_length_le h]

@[simp] theorem fieldAt_be_skip {m x off n : Nat} {rest : List Byte} (h : m ≤ off) :
    fieldAt (be m x ++ rest) off n = fieldAt rest (off - m) n := by
  simpa using fieldAt_append_of_le (a := be m x) (b := rest) (off := off) (n := n) (by simpa using h)

@[simp] theorem fieldAt_be_append (n x : Nat) (rest : List Byte) : fieldAt (be n x ++ rest) 0 n = x % 256 ^ n := by
  simp [fieldAt, beVal_be]

@[simp] theorem fieldAt_be (n x : Nat) : fieldAt (be n x) 0 n = x % 256 ^ n := by
  simpa using fieldAt_be_append n x []

end Sys2Proof.Machine
end

