-- ==== Sys2Proof/Laws/Conditions.lean ====
section
/-! SUPPORT. The conditions that blocks read of one another: each model condition holds exactly when its rule's condition, as Safety.lean spells
it out, does. A claim cites these and does not unfold the condition. -/

namespace Sys2Proof.Machine

variable {s : State}

/-! ## Points -/

theorem isKind_iff {k : PointKind} {p : PointIx} : isKind k (s.point p) = true ↔ OfKind s p k := by
  simp [isKind, OfKind, Option.any_eq_true]

theorem wrongKind_iff {k : PointKind} {p : PointIx} : wrongKind k (s.point p) = true ↔ WrongKind s p k := by
  simp [wrongKind, WrongKind, Option.any_eq_true]

/-- R119. -/
theorem creditsCell_iff {e : CellIx} {x : Stream} : creditsCell e x = true ↔ CreditedTo e x := by
  unfold creditsCell CreditedTo
  rcases x.cfg with _ | c <;> simp

theorem fieldSource_iff {p : PointIx} {n : NodeIx} {ch : Channel} :
    fieldSource (s.point p) = some (n, ch) ↔ OnField s p n ch := by
  unfold fieldSource OnField
  rcases (s.point p).cfg with _ | ⟨_, src, _, _, _⟩
  · simp
  · cases src <;> simp

theorem fieldSource_none {p : PointIx} : fieldSource (s.point p) = none ↔ ∀ n ch, ¬ OnField s p n ch := by
  rcases h : fieldSource (s.point p) with _ | ⟨n, ch⟩
  · simp only [true_iff]
    intro n ch hf
    rw [fieldSource_iff.mpr hf] at h
    simp at h
  · simp only [reduceCtorEq, false_iff, not_forall, not_not]
    exact ⟨n, ch, fieldSource_iff.mp h⟩

theorem counterSource_iff {p : PointIx} {q : CounterIx} {k : Nat} :
    counterSource (s.point p) = some (q, k) ↔ OnCounter s p q k := by
  unfold counterSource OnCounter
  rcases (s.point p).cfg with _ | ⟨_, src, _, _, _⟩
  · simp
  · cases src <;> simp

theorem counterSource_none {p : PointIx} : counterSource (s.point p) = none ↔ NoCounter s p := by
  rcases h : counterSource (s.point p) with _ | ⟨q, k⟩
  · simp only [true_iff]
    intro q k hf
    rw [counterSource_iff.mpr hf] at h
    simp at h
  · simp only [reduceCtorEq, false_iff, NoCounter, not_forall, not_not]
    exact ⟨q, k, counterSource_iff.mp h⟩

theorem onAnalogPin_iff {p : PointIx} {l : PinIx} : onAnalogPin l (s.point p) = true ↔ OnAnalog s p l := by
  unfold onAnalogPin OnAnalog
  rcases (s.point p).cfg with _ | ⟨_, src, _, _, _⟩
  · simp
  · cases src <;> simp

theorem onPin_iff {p : PointIx} {l : PinIx} : onPin l (s.point p) = true ↔ OnAnalog s p l ∨ OnSwitch s p l := by
  unfold onPin OnAnalog OnSwitch
  rcases (s.point p).cfg with _ | ⟨_, src, _, _, _⟩
  · simp
  · cases src <;> simp

/-! ## Acceptance and interlocks -/

theorem hasLead_iff {k : ChainIx} : hasLead (s.chain k) = true ↔ HasLead s k := by simp [hasLead, HasLead]

theorem drainAccepts_iff : drainAccepts s = true ↔ DrainOpen s := by
  constructor
  · intro h k
    simp only [drainAccepts, drainParts, List.all_cons, List.all_nil, Bool.and_true, Bool.and_eq_true, id_eq,
      Option.isSome_iff_ne_none, Bool.not_eq_true', budgetLeft, effluentSilverOk, effluentPhOk, Option.any_eq_true,
      decide_eq_true_eq] at h
    obtain ⟨h1, h2, h3, h4, ⟨p, hp, h5⟩, ⟨q, hq, h6⟩, r, hr, h7, h8⟩ := h
    match k with
    | 0 => trivial
    | 1 => exact h1
    | 2 => exact h2
    | 3 => exact h3
    | 4 => exact h4
    | 5 => exact ⟨p, hp, h5⟩
    | 6 => exact ⟨q, hq, h6.1, h6.2⟩
    | 7 => exact ⟨r, hr, h7.1, h7.2, h8⟩
    | _ + 8 => trivial
  · intro h
    obtain ⟨p, hp, h5⟩ := h 5
    obtain ⟨q, hq, h6⟩ := h 6
    obtain ⟨r, hr, h7⟩ := h 7
    simp only [drainAccepts, drainParts, List.all_cons, List.all_nil, Bool.and_true, Bool.and_eq_true, id_eq,
      Option.isSome_iff_ne_none, Bool.not_eq_true', budgetLeft, effluentSilverOk, effluentPhOk, Option.any_eq_true,
      decide_eq_true_eq]
    exact ⟨h 1, h 2, h 3, h 4, ⟨p, hp, h5⟩, ⟨q, hq, h6⟩, r, hr, ⟨h7.1, h7.2.1⟩, h7.2.2⟩

theorem accepts_iff {d : Dest} : accepts s d = true ↔ Accepting s d := by
  cases d with
  | cell e => simp [accepts, Accepting, cellAccepts, Option.isSome_iff_ne_none]
  | chain k => simp [accepts, Accepting, chainAccepts, Option.isSome_iff_ne_none, hasLead_iff]
  | tank t => simp [accepts, Accepting, tankAccepts, Option.any_eq_true, and_assoc]
  | drain => exact drainAccepts_iff
  | ret => simp [accepts, Accepting]

theorem condHolds_iff {c : Cond} : condHolds s c = true ↔ CondMet s c := by
  cases c with
  | always => simp [condHolds, CondMet]
  | tankNotReleasing t =>
    rcases h : (s.tank t).cfg with _ | _ <;> simp [condHolds, CondMet, h]
  | streamActive i => simp [condHolds, CondMet, Option.isSome_iff_ne_none]
  | cellRunning e => simp [condHolds, CondMet, cellAccepts, Option.isSome_iff_ne_none]
  | budgetAbove p =>
    rcases h : s.disch.permit with _ | c <;> simp [condHolds, CondMet, remainingBudget, h]

theorem mem_interlocksOn {n : NodeIx} {c : Channel} {e : Interlock} : e ∈ interlocksOn s n c ↔ TargetedBy s n c e := by
  simp only [interlocksOn, List.mem_filterMap, TargetedBy, State.interlock, Option.filter_eq_some_iff, Bool.and_eq_true,
    decide_eq_true_eq]
  constructor
  · rintro ⟨_, hm, rfl, h⟩
    obtain ⟨i, hi, h'⟩ := List.mem_iff_getElem.mp hm
    rw [Vector.length_toList] at hi
    exact ⟨⟨⟨i, hi⟩, by simpa using h'⟩, h⟩
  · rintro ⟨⟨i, hi⟩, h⟩
    refine ⟨_, ?_, rfl, h⟩
    have : s.interlocks[i.val] = some e := hi
    rw [← this]
    exact (Vector.mem_toList_iff).mpr (Vector.getElem_mem _)

theorem interlockCheck_none {n : NodeIx} {c : Channel} {v : Nat} : interlockCheck s n c v = none ↔ Barred s n c := by
  unfold interlockCheck
  simp only
  split
  · next h =>
    simp only [List.all_eq_true] at h
    simp only [reduceCtorEq, false_iff]
    rintro ⟨e, he, hc⟩
    exact hc (condHolds_iff.mp (h e (mem_interlocksOn.mpr he)))
  · next h =>
    simp only [List.all_eq_true, not_forall] at h
    obtain ⟨e, he, hc⟩ := h
    simp only [true_iff]
    exact ⟨e, mem_interlocksOn.mp he, fun hm => hc (condHolds_iff.mpr hm)⟩

/-- R91: the least of a value and the maxima of some entries. -/
theorem foldl_min_max (es : List Interlock) (v : Nat) :
    es.foldl (fun m e => min m e.max) v ≤ v ∧ (∀ e ∈ es, es.foldl (fun m e => min m e.max) v ≤ e.max) ∧
      (es.foldl (fun m e => min m e.max) v = v ∨ ∃ e ∈ es, es.foldl (fun m e => min m e.max) v = e.max) := by
  induction es generalizing v with
  | nil => simp
  | cons e es ih =>
    obtain ⟨h1, h2, h3⟩ := ih (min v e.max)
    rw [List.foldl_cons]
    refine ⟨by omega, ?_, ?_⟩
    · intro x hx
      rcases List.mem_cons.mp hx with rfl | hx
      · omega
      · exact h2 x hx
    · rcases h3 with h3 | ⟨x, hx, h3⟩
      · rcases Nat.le_total v e.max with hv | hv
        · left; omega
        · right; exact ⟨e, List.mem_cons_self .., by omega⟩
      · right; exact ⟨x, List.mem_cons_of_mem _ hx, h3⟩

theorem interlockCheck_some {n : NodeIx} {c : Channel} {v w : Nat} {clamped : Bool} :
    interlockCheck s n c v = some (w, clamped) ↔ PassesAs s n c v w ∧ clamped = decide (w < v) := by
  by_cases hb : Barred s n c
  · simp [interlockCheck_none.mpr hb, PassesAs, hb]
  · have hn : interlockCheck s n c v ≠ none := fun h => hb (interlockCheck_none.mp h)
    obtain ⟨h1, h2, h3⟩ := foldl_min_max (interlocksOn s n c) v
    unfold interlockCheck at hn ⊢
    simp only at hn ⊢
    split at hn
    · next h =>
      rw [if_pos h]
      simp only [Option.some.injEq, Prod.mk.injEq]
      constructor
      · rintro ⟨rfl, rfl⟩
        refine ⟨⟨hb, h1, fun e he => h2 e (mem_interlocksOn.mpr he), ?_⟩, rfl⟩
        rcases h3 with h3 | ⟨e, he, h3⟩
        · exact .inl h3
        · exact .inr ⟨e, mem_interlocksOn.mp he, h3⟩
      · rintro ⟨⟨-, hw, hle, hval⟩, rfl⟩
        have hwe : ((interlocksOn s n c).foldl (fun m e => min m e.max) v) = w := by
          apply Nat.le_antisymm
          · rcases hval with rfl | ⟨e, he, rfl⟩
            · exact h1
            · exact h2 e (mem_interlocksOn.mpr he)
          · rcases h3 with h3 | ⟨e, he, h3⟩
            · omega
            · have := hle e (mem_interlocksOn.mp he); omega
        exact ⟨hwe, by rw [hwe]⟩
    · exact absurd rfl hn

/-! ## The scan list -/

theorem isDue_iff {i : ScanIx} : isDue s i = true ↔ Due s i := by
  unfold isDue Due
  simp only
  rcases hs : (s.scanEntry i).slot with _ | ⟨p, period⟩
  · simp
  · rcases hf : fieldSource (s.point p) with _ | ⟨n, ch⟩
    · have := fieldSource_none.mp hf
      simp only [hf, Bool.false_eq_true, Option.some.injEq, Prod.mk.injEq, false_iff]
      rintro ⟨_, _, n, ch, ⟨rfl, -⟩, h, -⟩
      exact this n ch h
    · have hon := fieldSource_iff.mp hf
      have key : (s.scanEntry i).since.all (fun t => effectivePeriod s n period ≤ t) = true ↔
          (s.scanEntry i).since = none ∨ ∃ t, (s.scanEntry i).since = some t ∧
            (if (s.node n).state = .lost then max period 100 else period) ≤ t := by
        rcases (s.scanEntry i).since with _ | t <;> simp [effectivePeriod, Config.lostScanPeriod]
      simp only [hf, Bool.or_eq_true, key, Option.some.injEq, Prod.mk.injEq]
      constructor
      · intro h
        refine ⟨p, period, n, ch, ⟨rfl, rfl⟩, hon, ?_⟩
        rcases h with (h | h) | h
        exacts [.inl h, .inr (.inr h), .inr (.inl h)]
      · rintro ⟨_, _, m, ch', ⟨rfl, rfl⟩, h, h'⟩
        have hm := fieldSource_iff.mpr h
        rw [hf] at hm
        simp only [Option.some.injEq, Prod.mk.injEq] at hm
        obtain ⟨rfl, rfl⟩ := hm
        rcases h' with h' | h' | h'
        exacts [.inl (.inl h'), .inr h', .inl (.inr h')]

/-! ## Ownership and claims -/

theorem mem_ownersOf {a : ActIx} {o : Owner} : o ∈ ownersOf s a ↔ Names s o a := by
  cases o <;>
    simp [ownersOf, Names, streamOwns, tankOwns, chainOwns, tankNames, Option.any_eq_true, or_assoc]

theorem ownedByOther_iff {a : ActIx} {me : Owner} : ownedByOther s a me = true ↔ OwnedElsewhere s a me := by
  simp only [ownedByOther, List.any_eq_true, mem_ownersOf, OwnedElsewhere, decide_eq_true_eq]
  exact exists_congr fun o => and_comm

theorem mem_flowConsumers {p : PointIx} {o : Owner} : o ∈ flowConsumers s p ↔ Meters s o p := by
  cases o <;> simp [flowConsumers, Meters, Option.any_eq_true]

theorem counterTaken_iff {p : PointIx} {me : Owner} : counterTaken s p me = true ↔ FlowTaken s p me := by
  simp only [counterTaken, Bool.and_eq_true, List.any_eq_true, mem_flowConsumers, FlowTaken, decide_eq_true_eq,
    Option.isSome_iff_exists, Prod.exists, counterSource_iff]
  exact and_congr_right fun _ => exists_congr fun o => and_comm

/-! ## Objects in service -/

theorem ownerInService_iff {a : ActIx} : ownerInService s a = true ↔ OwnerUses s a := by
  simp only [ownerInService, List.any_eq_true, mem_ownersOf, OwnerUses]
  refine exists_congr fun o => and_congr_right fun _ => ?_
  cases o <;> simp [InService, streamInService, tankInService, hasLead_iff]

theorem releasing_exists : (releasingTank s).isSome = true ↔ ∃ t, (s.tank t).state = .releasing := by
  simp [releasingTank]

theorem mem_pointsInService {p : PointIx} : p ∈ pointsInService s ↔ PointUsed s p := by
  simp only [pointsInService, List.mem_append, List.mem_flatMap, List.mem_filter, List.mem_finRange, true_and,
    Option.mem_toList, List.mem_map, PointUsed, InService, streamInService, cellInService, tankInService,
    decide_eq_true_eq, or_assoc]
  refine or_congr ?_ (or_congr ?_ (or_congr ?_ (or_congr ?_ ?_)))
  · constructor
    · rintro ⟨i, hi, c, hc, hp⟩
      simp only [List.mem_cons, List.not_mem_nil, or_false] at hp
      exact ⟨i, c, hc, hi, hp.imp Eq.symm Eq.symm⟩
    · rintro ⟨i, c, hc, hi, hp⟩
      exact ⟨i, hi, c, hc, by simpa using hp.imp Eq.symm Eq.symm⟩
  · constructor
    · rintro ⟨e, he, c, hc, hp⟩
      exact ⟨e, c, hc, he, hp⟩
    · rintro ⟨e, c, hc, he, hp⟩
      exact ⟨e, he, c, hc, hp⟩
  · constructor
    · rintro ⟨k, hk, c, hc, hp⟩
      exact ⟨k, c, hc, hasLead_iff.mp hk, hp⟩
    · rintro ⟨k, c, hc, hk, hp⟩
      exact ⟨k, hasLead_iff.mpr hk, c, hc, hp⟩
  · constructor
    · rintro ⟨t, ht, c, hc, hp⟩
      simp only [List.mem_cons, List.not_mem_nil, or_false] at hp
      exact ⟨t, c, hc, ht, by tauto⟩
    · rintro ⟨t, c, hc, ht, hp⟩
      refine ⟨t, ht, c, hc, ?_⟩
      simp only [List.mem_cons, List.not_mem_nil, or_false]
      tauto
  · split
    · next h =>
      obtain ⟨t, ht⟩ := releasing_exists.mp h
      simp only [List.mem_flatMap, Option.mem_toList, List.mem_cons, List.not_mem_nil, or_false]
      constructor
      · rintro ⟨c, hc, hp⟩
        exact ⟨t, c, ht, hc, hp.imp Eq.symm Eq.symm⟩
      · rintro ⟨_, c, -, hc, hp⟩
        exact ⟨c, hc, hp.imp Eq.symm Eq.symm⟩
    · next h =>
      simp only [List.not_mem_nil, false_iff]
      rintro ⟨t, _, ht, -⟩
      exact h (releasing_exists.mpr ⟨t, ht⟩)

theorem pointInService_iff {p : PointIx} : pointInService s p = true ↔ PointUsed s p := by
  simp [pointInService, mem_pointsInService]

theorem curveInService_iff {i : CurveIx} : curveInService s i = true ↔ CurveUsed s i := by
  simp [curveInService, List.any_eq_true, mem_pointsInService, CurveUsed, Option.any_eq_true]

theorem countsFor_iff {p : PointIx} {l : PinIx} : countsFor s l (s.point p) = true ↔ FeedsPoint s l p := by
  have even : ∀ r q : CounterIx, (r = q ∨ oddPartner r = q) ↔ (r = q ∨ (r.val % 2 = 0 ∧ q.val = r.val + 1)) := by decide
  unfold countsFor FeedsPoint
  rcases hs : counterSource (s.point p) with _ | ⟨q, k⟩
  · have := counterSource_none.mp hs
    simp only [Bool.false_eq_true, false_iff]
    rintro ⟨q, k, _, _, _, h, -⟩
    exact this q k h
  · have hon := counterSource_iff.mp hs
    have only : ∀ q' k', OnCounter s p q' k' → q' = q := fun q' k' h => by
      have := counterSource_iff.mpr h
      rw [hs] at this
      simp_all
    rcases hf : (s.pin l).fn with _ | _ | _ | ⟨r, edge, cascade⟩ | _ | _
    case counter =>
      simp only [counterFn, Bool.or_eq_true, Bool.and_eq_true, decide_eq_true_eq]
      constructor
      · intro h
        refine ⟨q, k, r, edge, cascade, hon, rfl, ?_⟩
        rcases h with h | ⟨hc, h⟩
        · exact .inl h
        · exact ((even r q).mp (.inr h)).imp id (fun h => ⟨hc, h⟩)
      · rintro ⟨q', k', _, _, _, h, heq, h'⟩
        cases only q' k' h
        cases heq
        rcases h' with h' | ⟨hc, h'⟩
        · exact .inl h'
        · exact ((even r q).mpr (.inr h')).imp id (fun h => ⟨hc, h⟩)
    all_goals
      simp only [counterFn, Bool.false_eq_true, reduceCtorEq, false_and, and_false, exists_false]

theorem pinInService_iff {l : PinIx} : pinInService s l = true ↔ PinUsed s l := by
  have pwm : ∀ e, pwmMapped (s.pin l).fn e = true ↔ ∃ inv, (s.pin l).fn = .cellPwm e inv := by
    intro e
    unfold pwmMapped
    cases (s.pin l).fn <;> simp
  have bound : ∀ a, boundToPin l (s.actuator a) = true ↔ ∃ safe, (s.actuator a).cfg = some { binding := .pin l, safe := safe } := by
    intro a
    unfold boundToPin
    rcases (s.actuator a).cfg with _ | ⟨b, safe⟩ <;> simp
  simp only [pinInService, Bool.or_eq_true, List.any_eq_true, List.mem_finRange, true_and, PinUsed, or_assoc]
  refine or_congr ?_ (or_congr ?_ (or_congr ?_ (or_congr ?_ (or_congr ?_ ?_))))
  · refine exists_congr fun i => ?_
    simp only [streamUsesPin, Bool.and_eq_true, streamInService, decide_eq_true_eq, Option.any_eq_true, Bool.or_eq_true,
      onPin_iff, countsFor_iff, InService]
    constructor
    · rintro ⟨hi, c, hc, (h | h) | h⟩
      exacts [⟨c, hc, hi, .inl ⟨_, .inl rfl, h⟩⟩, ⟨c, hc, hi, .inl ⟨_, .inr rfl, h⟩⟩, ⟨c, hc, hi, .inr h⟩]
    · rintro ⟨c, hc, hi, ⟨_, rfl | rfl, h⟩ | h⟩
      exacts [⟨hi, c, hc, .inl (.inl h)⟩, ⟨hi, c, hc, .inl (.inr h)⟩, ⟨hi, c, hc, .inr h⟩]
  · refine exists_congr fun e => ?_
    simp only [cellUsesPin, Bool.and_eq_true, cellInService, decide_eq_true_eq, Option.any_eq_true, Bool.or_eq_true,
      onAnalogPin_iff, pwm]
    constructor
    · rintro ⟨he, c, hc, h⟩; exact ⟨c, hc, he, h⟩
    · rintro ⟨c, hc, he, h⟩; exact ⟨he, c, hc, h⟩
  · refine exists_congr fun k => ?_
    simp only [chainUsesPin, Bool.and_eq_true, Option.any_eq_true, onAnalogPin_iff, InService, hasLead_iff]
    constructor
    · rintro ⟨hk, c, hc, p, hp, h⟩; exact ⟨c, p, hc, hk, hp, h⟩
    · rintro ⟨c, p, hc, hk, hp, h⟩; exact ⟨hk, c, hc, p, hp, h⟩
  · refine exists_congr fun t => ?_
    simp only [tankUsesPin, Bool.and_eq_true, tankInService, decide_eq_true_eq, Option.any_eq_true, Bool.or_eq_true,
      onPin_iff, countsFor_iff, InService]
    constructor
    · rintro ⟨ht, c, hc, (((h | h) | h) | h) | h⟩
      exacts [⟨c, hc, ht, .inl ⟨_, .inl rfl, h⟩⟩, ⟨c, hc, ht, .inl ⟨_, .inr (.inl rfl), h⟩⟩,
        ⟨c, hc, ht, .inl ⟨_, .inr (.inr (.inl rfl)), h⟩⟩, ⟨c, hc, ht, .inl ⟨_, .inr (.inr (.inr rfl)), h⟩⟩,
        ⟨c, hc, ht, .inr h⟩]
    · rintro ⟨c, hc, ht, ⟨_, rfl | rfl | rfl | rfl, h⟩ | h⟩
      exacts [⟨ht, c, hc, .inl (.inl (.inl (.inl h)))⟩, ⟨ht, c, hc, .inl (.inl (.inl (.inr h)))⟩,
        ⟨ht, c, hc, .inl (.inl (.inr h))⟩, ⟨ht, c, hc, .inl (.inr h)⟩, ⟨ht, c, hc, .inr h⟩]
  · simp only [permitUsesPin, Bool.and_eq_true, releasing_exists, Option.any_eq_true, Bool.or_eq_true, onAnalogPin_iff]
    constructor
    · rintro ⟨⟨t, ht⟩, c, hc, h⟩; exact ⟨t, c, ht, hc, h⟩
    · rintro ⟨t, c, ht, hc, h⟩; exact ⟨⟨t, ht⟩, c, hc, h⟩
  · refine exists_congr fun a => ?_
    simp only [actuatorUsesPin, Bool.and_eq_true, bound, ownerInService_iff]
    constructor
    · rintro ⟨⟨safe, h⟩, h'⟩; exact ⟨safe, h, h'⟩
    · rintro ⟨safe, h, h'⟩; exact ⟨⟨safe, h⟩, h'⟩

/-! ## The pin map -/

theorem pinFnBad_iff {p : PinIx} {f : PinFn} : pinFnBad p f = true ↔ PinLacks p f := by
  cases f with
  | cellPwm e inv => simp [pinFnBad, pinProvides, PinLacks]; omega
  | counter q edge cascade =>
    have : 7 < p.val ↔ 8 ≤ p.val := by omega
    cases cascade <;> simp [pinFnBad, pinProvides, PinLacks, isOdd, this]
  | _ => simp [pinFnBad, pinProvides, PinLacks]

theorem pinFnConflict_iff {p : PinIx} {f : PinFn} (hb : pinFnBad p f = false) :
    pinFnConflict s p f = true ↔ PinClashes s p f := by
  have hev : ∀ q r : CounterIx, q.val % 2 = 1 → (evenPartner q = r ↔ q.val = r.val + 1) := by decide
  have hod : ∀ q r : CounterIx, q.val % 2 = 0 → (oddPartner q = r ↔ r.val = q.val + 1) := by decide
  have hm : ∀ r c, (r, c) ∈ otherCounters s p ↔ ∃ o e, o ≠ p ∧ (s.pin o).fn = .counter r e c := by
    intro r c
    simp only [otherCounters, List.mem_filterMap, List.mem_filter, List.mem_finRange, true_and, decide_eq_true_eq]
    constructor
    · rintro ⟨o, ho, h⟩
      unfold counterFn at h
      split at h <;> simp at h
      obtain ⟨rfl, rfl⟩ := h
      exact ⟨o, _, ho, by assumption⟩
    · rintro ⟨o, e, ho, h⟩
      exact ⟨o, ho, by simp [h, counterFn]⟩
  cases f with
  | counter q e c =>
    have hq : c = true → q.val % 2 = 0 := by
      rintro rfl; simp [pinFnBad, isOdd] at hb; omega
    simp only [pinFnConflict, PinClashes, Bool.or_eq_true, Bool.and_eq_true, List.any_eq_true, List.contains_iff_mem, hm,
      decide_eq_true_eq, isOdd, Prod.exists]
    constructor
    · rintro ((⟨r, c', ⟨o, e', ho, h⟩, rfl⟩ | ⟨h1, o, e', ho, h⟩) | ⟨rfl, r, c', ⟨o, e', ho, h⟩, rfl⟩)
      · exact .inl ⟨_, _, _, o, _, e', c', rfl, ho, h, .inl rfl⟩
      · exact .inl ⟨_, _, _, o, _, e', _, rfl, ho, h, .inr (.inl ⟨h1, rfl, (hev q _ h1).mp rfl⟩)⟩
      · exact .inl ⟨_, _, _, o, _, e', _, rfl, ho, h, .inr (.inr ⟨rfl, (hod q _ (hq rfl)).mp rfl⟩)⟩
    · rintro (⟨q', _, _, o, r, e', c', heq, ho, h, h'⟩ | ⟨_, _, _, _, heq, _⟩)
      · cases heq
        rcases h' with rfl | ⟨h1, rfl, h2⟩ | ⟨rfl, h2⟩
        · exact .inl (.inl ⟨_, c', ⟨o, e', ho, h⟩, rfl⟩)
        · exact .inl (.inr ⟨h1, o, e', ho, by rw [(hev q r h1).mpr h2]; exact h⟩)
        · exact .inr ⟨rfl, r, c', ⟨o, e', ho, h⟩, ((hod q r (hq rfl)).mpr h2).symm⟩
      · cases heq
  | cellPwm e inv =>
    simp only [pinFnConflict, PinClashes, List.any_eq_true, List.mem_finRange, true_and, Bool.and_eq_true, decide_eq_true_eq]
    constructor
    · rintro ⟨o, ho, h⟩
      unfold pwmMapped at h
      split at h <;> simp at h
      subst h
      exact .inr ⟨_, _, o, _, rfl, ho, by assumption⟩
    · rintro (⟨q', _, _, o, r, e', c', heq, _⟩ | ⟨_, _, o, inv', heq, ho, h⟩)
      · cases heq
      · cases heq; exact ⟨o, ho, by simp [h, pwmMapped]⟩
  | _ => simp [pinFnConflict, PinClashes]

/-! ## Replies on the field line -/

/-- R53, R203: the conditions on the frame as a whole. -/
theorem replyIn_seven (x : Exchange) (b0 b1 b2 b3 b4 b5 b6 : Byte) :
    replyIn x [b0, b1, b2, b3, b4, b5, b6] =
      if b6 = crc8 [b0, b1, b2, b3, b4, b5] ∧ b0.toNat = nodeNumber x.node ∧ b2.toNat = x.channel.val then
        replyOf x b1.toNat (256 * b3.toNat + b4.toNat) b5.toNat
      else none := by
  simp [replyIn, fieldAt, beVal, and_assoc]

/-- R53, R203: the conditions on a frame's kind, value and status. -/
theorem replyOf_none (x : Exchange) (kind value status : Nat) :
    replyOf x kind value status = none ↔
      (isPoll x.job = true ∧ kind ≠ 2 ∧ kind ≠ 6) ∨ (isPoll x.job = false ∧ kind ≠ 4 ∧ kind ≠ 5 ∧ kind ≠ 6) ∨
      (kind = 2 ∧ 1 < status) ∨ (kind = 4 ∧ (1000 < value ∨ status ≠ 0)) ∨
      (kind = 5 ∧ (value ≠ 0 ∨ status = 0 ∨ 3 < status)) ∨ (kind = 6 ∧ (value ≠ 0 ∨ status ≠ 0)) ∨
      (kind = 4 ∧ value ≠ x.value) := by
  have refuse : refuseReason status = none ↔ status = 0 ∨ 3 < status := by
    unfold refuseReason
    split
    · simp; omega
    split
    · simp; omega
    split
    · simp; omega
    · simp only [true_iff]; omega
  unfold replyOf
  by_cases h6 : kind = 6
  · subst h6
    by_cases h : value = 0 ∧ status = 0 <;> simp [h]
    omega
  by_cases hp : isPoll x.job = true
  · by_cases h2 : kind = 2
    · subst h2
      by_cases h : status ≤ 1 <;> simp [h, hp]
      omega
    · simp [h6, hp, h2]
  by_cases h4 : kind = 4
  · subst h4
    by_cases h : value = x.value ∧ value ≤ 1000 ∧ status = 0
    · simp [h, hp]
    · simp only [h6, if_false, hp, Bool.false_eq_true, if_true]
      rw [if_neg (by simpa [and_assoc] using h)]
      simp; omega
  by_cases h5 : kind = 5
  · subst h5
    by_cases h : value = 0 <;> simp [h, hp, refuse]
  · simp [h6, hp, h4, h5]

/-- R53. -/
theorem replyIn_none (x : Exchange) (frame : List Byte) : replyIn x frame = none ↔ NoReply x frame := by
  have pollEx : isPoll x.job = true ↔ ∃ i p r, x.job = .poll i p r := by cases x.job <;> simp [isPoll]
  have pollEx' : isPoll x.job = false ↔ ¬ ∃ i p r, x.job = .poll i p r := by rw [← pollEx]; simp
  unfold NoReply
  by_cases hl : frame.length = 7
  · obtain ⟨b0, b1, b2, b3, b4, b5, b6, rfl⟩ : ∃ b0 b1 b2 b3 b4 b5 b6, frame = [b0, b1, b2, b3, b4, b5, b6] := by
      match frame, hl with
      | [b0, b1, b2, b3, b4, b5, b6], _ => exact ⟨_, _, _, _, _, _, _, rfl⟩
    have hk : ∀ n : Nat, n < 256 → (b1.toNat = n ↔ b1 = BitVec.ofNat 8 n) := fun n hn => by
      constructor
      · rintro rfl; simp
      · rintro rfl; simp; omega
    have hs : b5.toNat = 0 ↔ b5 = 0 := by
      constructor
      · intro h; exact BitVec.eq_of_toNat_eq (by simpa using h)
      · rintro rfl; rfl
    rw [replyIn_seven]
    have key := replyOf_none x b1.toNat (256 * b3.toNat + b4.toNat) b5.toNat
    simp only [pollEx, pollEx', ne_eq, hs, hk 2 (by omega), hk 4 (by omega), hk 5 (by omega), hk 6 (by omega)] at key
    split
    · next h =>
      rw [key]
      obtain ⟨h1, h2, h3⟩ := h
      constructor
      · intro h
        refine .inr ⟨b0, b1, b2, b3, b4, b5, b6, rfl, ?_⟩
        simp only [ne_eq, h1, h2, h3, not_true_eq_false, false_or]
        exact h
      · rintro (h | ⟨_, _, _, _, _, _, _, heq, h⟩)
        · exact absurd rfl h
        · simp only [List.cons.injEq, and_true] at heq
          obtain ⟨rfl, rfl, rfl, rfl, rfl, rfl, rfl⟩ := heq
          simp only [ne_eq, h1, h2, h3, not_true_eq_false, false_or] at h
          exact h
    · next h =>
      simp only [true_iff]
      refine .inr ⟨b0, b1, b2, b3, b4, b5, b6, rfl, ?_⟩
      by_cases g1 : b6 = crc8 [b0, b1, b2, b3, b4, b5]
      · by_cases g2 : b0.toNat = nodeNumber x.node
        · exact .inr (.inr (.inl fun g3 => h ⟨g1, g2, g3⟩))
        · exact .inr (.inl g2)
      · exact .inl g1
  · have : replyIn x frame = none := by simp [replyIn, hl]
    simp [this, hl]

end Sys2Proof.Machine
end

