-- ==== Sys2Proof/Laws/PerInstr.lean ====
section
/-! SUPPORT. Statements made per command, one lemma for each row of the table. -/

namespace Sys2Proof.Laws.OperandsWellFormed

open Sys2Proof

/-- The bytes that a command carries from a line, for the rows that carry any. -/
def carried : Instr → Option (List Byte)
  | .plantFrameReceived heard => some heard
  | .fieldReplyReceived frame => some frame
  | .fieldFrameDiscarded frame => some frame
  | _ => none

/-- The references of a conversion round (R102), for the row that carries one. -/
def references : Instr → List Nat
  | .analogSamplingRound l8 l9 l10 l11 => [l8, l9, l10, l11].map (·.reference)
  | _ => []

/-- A command is well formed exactly when the bytes it carries, if it carries any, are not the empty list, and the references of its
conversions, if it has any, are not 0: every index is in range by its type. -/
def Statement (i : Instr) : Prop := i.WellFormed = true ↔ carried i ≠ some [] ∧ 0 ∉ references i

theorem of_none {i : Instr} (h : i.WellFormed = true) (hc : carried i = none) (hr : references i = []) : Statement i := by
  simp [Statement, h, hc, hr]

theorem of_bytes {i : Instr} {bs : List Byte} (h : i.WellFormed = !bs.isEmpty) (hc : carried i = some bs)
    (hr : references i = []) : Statement i := by
  simp [Statement, h, hc, hr]

theorem plantFrameReceived (heard : List Byte) : Statement (.plantFrameReceived heard) := of_bytes rfl rfl rfl
theorem plantFrameGapTimeout : Statement .plantFrameGapTimeout := of_none rfl rfl rfl
theorem otherKindRequest : Statement .otherKindRequest := of_none rfl rfl rfl
theorem loadPoint : Statement .loadPoint := of_none rfl rfl rfl
theorem loadCurve : Statement .loadCurve := of_none rfl rfl rfl
theorem loadScan : Statement .loadScan := of_none rfl rfl rfl
theorem loadStream : Statement .loadStream := of_none rfl rfl rfl
theorem loadActuator : Statement .loadActuator := of_none rfl rfl rfl
theorem loadCell : Statement .loadCell := of_none rfl rfl rfl
theorem loadChain : Statement .loadChain := of_none rfl rfl rfl
theorem loadTank : Statement .loadTank := of_none rfl rfl rfl
theorem loadPermit : Statement .loadPermit := of_none rfl rfl rfl
theorem loadPinmap : Statement .loadPinmap := of_none rfl rfl rfl
theorem loadInterlock : Statement .loadInterlock := of_none rfl rfl rfl
theorem loadClassmap : Statement .loadClassmap := of_none rfl rfl rfl
theorem loadLine : Statement .loadLine := of_none rfl rfl rfl
theorem readPoint : Statement .readPoint := of_none rfl rfl rfl
theorem readCurve : Statement .readCurve := of_none rfl rfl rfl
theorem readScan : Statement .readScan := of_none rfl rfl rfl
theorem readStream : Statement .readStream := of_none rfl rfl rfl
theorem readActuator : Statement .readActuator := of_none rfl rfl rfl
theorem readInterlock : Statement .readInterlock := of_none rfl rfl rfl
theorem readCell : Statement .readCell := of_none rfl rfl rfl
theorem readChain : Statement .readChain := of_none rfl rfl rfl
theorem readTank : Statement .readTank := of_none rfl rfl rfl
theorem readPermit : Statement .readPermit := of_none rfl rfl rfl
theorem readPinmap : Statement .readPinmap := of_none rfl rfl rfl
theorem readClassmap : Statement .readClassmap := of_none rfl rfl rfl
theorem readLine : Statement .readLine := of_none rfl rfl rfl
theorem startStream : Statement .startStream := of_none rfl rfl rfl
theorem stopStream : Statement .stopStream := of_none rfl rfl rfl
theorem startCell : Statement .startCell := of_none rfl rfl rfl
theorem harvestCell : Statement .harvestCell := of_none rfl rfl rfl
theorem endHarvest : Statement .endHarvest := of_none rfl rfl rfl
theorem clearCell : Statement .clearCell := of_none rfl rfl rfl
theorem installCartridge : Statement .installCartridge := of_none rfl rfl rfl
theorem removeCartridge : Statement .removeCartridge := of_none rfl rfl rfl
theorem startTank : Statement .startTank := of_none rfl rfl rfl
theorem stopTank : Statement .stopTank := of_none rfl rfl rfl
theorem closeFill : Statement .closeFill := of_none rfl rfl rfl
theorem setClock : Statement .setClock := of_none rfl rfl rfl
theorem maskClass : Statement .maskClass := of_none rfl rfl rfl
theorem unmaskClass : Statement .unmaskClass := of_none rfl rfl rfl
theorem passSet : Statement .passSet := of_none rfl rfl rfl
theorem allSafe : Statement .allSafe := of_none rfl rfl rfl
theorem resume : Statement .resume := of_none rfl rfl rfl
theorem keepalive : Statement .keepalive := of_none rfl rfl rfl
theorem resetPart : Statement .resetPart := of_none rfl rfl rfl
theorem transmitNextFrame : Statement .transmitNextFrame := of_none rfl rfl rfl
theorem plantFrameSent : Statement .plantFrameSent := of_none rfl rfl rfl
theorem silenceTimerExpiry : Statement .silenceTimerExpiry := of_none rfl rfl rfl
theorem lineFree : Statement .lineFree := of_none rfl rfl rfl
theorem requestFrameSent : Statement .requestFrameSent := of_none rfl rfl rfl
theorem fieldReplyReceived (frame : List Byte) : Statement (.fieldReplyReceived frame) := of_bytes rfl rfl rfl
theorem fieldFrameDiscarded (frame : List Byte) : Statement (.fieldFrameDiscarded frame) := of_bytes rfl rfl rfl
theorem replyWindowClosed : Statement .replyWindowClosed := of_none rfl rfl rfl
theorem silentAttemptResend : Statement .silentAttemptResend := of_none rfl rfl rfl
theorem holdoffDelayExpiry : Statement .holdoffDelayExpiry := of_none rfl rfl rfl
theorem allSafeFrameSent : Statement .allSafeFrameSent := of_none rfl rfl rfl
theorem allSafeComplete : Statement .allSafeComplete := of_none rfl rfl rfl
theorem scanClockStep : Statement .scanClockStep := of_none rfl rfl rfl
theorem retryTimerExpiry (actuator : ActIx) : Statement (.retryTimerExpiry actuator) := of_none rfl rfl rfl
theorem accountTimerExpiry : Statement .accountTimerExpiry := of_none rfl rfl rfl
theorem ageTimerExpiry : Statement .ageTimerExpiry := of_none rfl rfl rfl
theorem analogSamplingRound (l8 l9 l10 l11 : Conversion) : Statement (.analogSamplingRound l8 l9 l10 l11) := by
  simp only [Statement, Instr.WellFormed, carried, references, List.all_cons, List.all_nil, List.map_cons, List.map_nil, List.mem_cons,
    List.not_mem_nil, Bool.and_true, Bool.and_eq_true, decide_eq_true_eq, ne_eq, reduceCtorEq, not_false_eq_true, true_and, or_false]
  omega
theorem pinLevelChange (pin : PinIx) (level : Bool) : Statement (.pinLevelChange pin level) := of_none rfl rfl rfl
theorem debounceTimerExpiry (pin : PinIx) : Statement (.debounceTimerExpiry pin) := of_none rfl rfl rfl
theorem counterEdge (pin : PinIx) (level : Bool) : Statement (.counterEdge pin level) := of_none rfl rfl rfl
theorem pwmFrameStart (cell : CellIx) : Statement (.pwmFrameStart cell) := of_none rfl rfl rfl
theorem regulationTimerExpiry (cell : CellIx) : Statement (.regulationTimerExpiry cell) := of_none rfl rfl rfl
theorem chainMetering (chain : ChainIx) : Statement (.chainMetering chain) := of_none rfl rfl rfl
theorem tankMetering (tank : TankIx) : Statement (.tankMetering tank) := of_none rfl rfl rfl
theorem dwellTimerExpiry (tank : TankIx) : Statement (.dwellTimerExpiry tank) := of_none rfl rfl rfl
theorem testTimerExpiry (tank : TankIx) : Statement (.testTimerExpiry tank) := of_none rfl rfl rfl
theorem dischargeTimerExpiry : Statement .dischargeTimerExpiry := of_none rfl rfl rfl
theorem powerReset : Statement .powerReset := of_none rfl rfl rfl
theorem powerResetEnd (rateHi rateLo : Bool) : Statement (.powerResetEnd rateHi rateLo) := of_none rfl rfl rfl
theorem resetPinAsserted : Statement .resetPinAsserted := of_none rfl rfl rfl
theorem resetPinReleased (rateHi rateLo : Bool) : Statement (.resetPinReleased rateHi rateLo) := of_none rfl rfl rfl
theorem badTableRequest : Statement .badTableRequest := of_none rfl rfl rfl
theorem unknownCommandCode : Statement .unknownCommandCode := of_none rfl rfl rfl

end Sys2Proof.Laws.OperandsWellFormed
end

