-- ==== Sys2Proof/Laws/Records.lean ====
section
/-! SUPPORT. Reading a LOAD record (R205): each field reader answers exactly the value that its bytes code, and a record of a table's length
is NONE, the content that it spells, or bad. -/

namespace Sys2Proof.Machine

/-- Within a record the number that R205 spells is the field that the model reads. -/
theorem numberAt_eq (r : List Byte) (n : Nat) : ∀ off, off + n ≤ r.length → numberAt r off n = fieldAt r off n := by
  induction n with
  | zero => intro off _; simp [numberAt, fieldAt, beVal]
  | succ n ih =>
    intro off h
    rw [numberAt, ih (off + 1) (by omega)]
    have hlt : off < r.length := by omega
    have hd : (r.drop off).take (n + 1) = [r.getD off 0] ++ (r.drop (off + 1)).take n := by
      rw [List.drop_eq_getElem_cons hlt, List.take_succ_cons]; simp [List.getD, hlt]
    unfold fieldAt
    rw [hd, beVal_append]
    have : ((r.drop (off + 1)).take n).length = n := by simp; omega
    rw [this]
    simp [beVal]; ring

theorem numberAt_lt (r : List Byte) (n : Nat) : ∀ off, numberAt r off n < 256 ^ n := by
  induction n with
  | zero => intro off; simp [numberAt]
  | succ n ih =>
    intro off
    have h := ih (off + 1)
    have hb := (r.getD off 0).isLt
    rw [numberAt, Nat.pow_succ]
    nlinarith

theorem index?_eq_some {n x : Nat} {i : Fin n} : index? n x = some i ↔ x = i.val := by
  unfold index?
  split
  · simp [Fin.ext_iff]
  · have := i.isLt
    simp; omega

theorem node?_eq_some {x : Nat} {n : NodeIx} : node? x = some n ↔ x = n.val + 1 := by
  unfold node?
  split
  · simp; omega
  · rw [index?_eq_some]; omega

theorem within_eq_some {lo hi x y : Nat} : within lo hi x = some y ↔ (lo ≤ y ∧ y ≤ hi) ∧ x = y := by
  unfold within
  split <;> simp <;> grind

theorem flag?_eq_some {x : Nat} {b : Bool} : flag? x = some b ↔ x = b.toNat := by
  unfold flag?
  cases b <;> simp
  grind

theorem optIndex?_eq_some {n x : Nat} (h : n ≤ 255) {i : Option (Fin n)} : optIndex? n x = some i ↔ IndexCoded i x := by
  unfold optIndex? IndexCoded
  split
  · cases i with
    | none => simp; assumption
    | some i => have := i.isLt; simp; omega
  · cases i with
    | none => simp; assumption
    | some i => simp [index?_eq_some]

theorem pointKind?_iff {x : Nat} {k : PointKind} : pointKind? x = some k ↔ Coded [.silver, .flow, .ph, .level, .volt] k x := by
  unfold pointKind? Coded
  rcases x with _|_|_|_|_|_|x <;> cases k <;> simp

theorem streamKind?_iff {x : Nat} {k : StreamKind} : streamKind? x = some k ↔ Coded [.fixer, .bleachfix, .wash, .tail] k x := by
  unfold streamKind? Coded
  rcases x with _|_|_|_|_|x <;> cases k <;> simp

theorem edge?_iff {x : Nat} {k : Edge} : edge? x = some k ↔ Coded [.rising, .falling, .both] k x := by
  unfold edge? Coded
  rcases x with _|_|_|_|x <;> cases k <;> simp

theorem polarity?_iff {x : Nat} {k : Bool} : polarity? x = some k ↔ PolarityCoded k x := by
  unfold polarity? PolarityCoded Coded
  rcases x with _|_|_|x <;> cases k <;> simp

theorem dest?_iff {k i : Nat} {d : Dest} : dest? k i = some d ↔ DestCoded d k i := by
  unfold dest? DestCoded
  rcases k with _|_|_|_|_|_|k <;> cases d <;> simp [index?_eq_some]

theorem cond?_iff {k i : Nat} {d : Cond} : cond? k i = some d ↔ CondCoded d k i := by
  unfold cond? CondCoded
  rcases k with _|_|_|_|_|_|k <;> cases d <;> simp [index?_eq_some, within_eq_some]
  omega

/-- A record with a kind byte is read by what its parser answers for a record of the table's length. -/
theorem readsKind {α : Type} {t : Table} {n : Nat} {parse : List Byte → Option α} {Spells : List Byte → α → Prop}
    (hl : ∀ r, recordLength t r = n) (hn : 1 ≤ n)
    (h : ∀ r c, r.length = n → (parse r = some c ↔ Spells r c)) :
    ReadsRecords t (fun _ => n) (fun r => kindBody r (parse r)) Spells := by
  intro r
  refine ⟨hl r, fun (hr : r.length = n) => ?_⟩
  rw [numberAt_eq r 1 0 (by omega)]
  refine ⟨fun h0 => by simp [kindBody, h0], fun c h0 hs => ?_, fun h0 hs => ?_⟩
  · simp [kindBody, h0, (h r c hr).mpr hs]
  · have : parse r = none := by
      rcases hp : parse r with _ | c
      · rfl
      · exact absurd ((h r c hr).mp hp) (hs c)
    simp [kindBody, h0, this]

/-- The same of a record with a content byte. -/
theorem readsContent {α : Type} {t : Table} {n : Nat} {parse : List Byte → Option α} {Spells : List Byte → α → Prop}
    (hl : ∀ r, recordLength t r = n) (hn : 1 ≤ n)
    (h : ∀ r c, r.length = n → (fieldAt r 0 1 = 1 ∧ parse r = some c ↔ Spells r c)) :
    ReadsRecords t (fun _ => n) (fun r => contentBody r (parse r)) Spells := by
  intro r
  refine ⟨hl r, fun (hr : r.length = n) => ?_⟩
  rw [numberAt_eq r 1 0 (by omega)]
  refine ⟨fun h0 => by simp [contentBody, h0], fun c h0 hs => ?_, fun h0 hs => ?_⟩
  · obtain ⟨h1, hp⟩ := (h r c hr).mpr hs
    simp [contentBody, h1, hp]
  · by_cases h1 : fieldAt r 0 1 = 1
    · have : parse r = none := by
        rcases hp : parse r with _ | c
        · rfl
        · exact absurd ((h r c hr).mp ⟨h1, hp⟩) (hs c)
      simp [contentBody, h1, this]
    · simp [contentBody, h0, h1]

end Sys2Proof.Machine
end

