-- ==== Sys2Proof/Laws/State.lean ====
section
/-! SUPPORT. What each update of the state leaves in each field, and what the records read after it. Every lemma is a simp lemma, so that no
later proof unfolds a record update. -/

namespace Sys2Proof.Machine

/-- `eachOf` applies a function to every record. -/
@[simp] theorem eachOf_eq_map {α β : Type} {n : Nat} (f : α → β) (v : Vector α n) : eachOf f v = v.map f := by
  ext i h
  simp [eachOf]

variable (s : State)


/-! ### setPoint -/

@[simp] theorem State.setPoint_pending (i : PointIx) (x : Point) : (s.setPoint i x).pending = s.pending := rfl
@[simp] theorem State.setPoint_port (i : PointIx) (x : Point) : (s.setPoint i x).port = s.port := rfl
@[simp] theorem State.setPoint_reports (i : PointIx) (x : Point) : (s.setPoint i x).reports = s.reports := rfl
@[simp] theorem State.setPoint_line (i : PointIx) (x : Point) : (s.setPoint i x).line = s.line := rfl
@[simp] theorem State.setPoint_curves (i : PointIx) (x : Point) : (s.setPoint i x).curves = s.curves := rfl
@[simp] theorem State.setPoint_actuators (i : PointIx) (x : Point) : (s.setPoint i x).actuators = s.actuators := rfl
@[simp] theorem State.setPoint_interlocks (i : PointIx) (x : Point) : (s.setPoint i x).interlocks = s.interlocks := rfl
@[simp] theorem State.setPoint_pins (i : PointIx) (x : Point) : (s.setPoint i x).pins = s.pins := rfl
@[simp] theorem State.setPoint_counters (i : PointIx) (x : Point) : (s.setPoint i x).counters = s.counters := rfl
@[simp] theorem State.setPoint_streams (i : PointIx) (x : Point) : (s.setPoint i x).streams = s.streams := rfl
@[simp] theorem State.setPoint_accounts (i : PointIx) (x : Point) : (s.setPoint i x).accounts = s.accounts := rfl
@[simp] theorem State.setPoint_cells (i : PointIx) (x : Point) : (s.setPoint i x).cells = s.cells := rfl
@[simp] theorem State.setPoint_chains (i : PointIx) (x : Point) : (s.setPoint i x).chains = s.chains := rfl
@[simp] theorem State.setPoint_tanks (i : PointIx) (x : Point) : (s.setPoint i x).tanks = s.tanks := rfl
@[simp] theorem State.setPoint_disch (i : PointIx) (x : Point) : (s.setPoint i x).disch = s.disch := rfl
@[simp] theorem State.setPoint_timers (i : PointIx) (x : Point) : (s.setPoint i x).timers = s.timers := rfl
@[simp] theorem State.setPoint_points (i : PointIx) (x : Point) : (s.setPoint i x).points = s.points.set i x := rfl
@[simp] theorem State.setPoint_curve (i : PointIx) (x : Point) (j : CurveIx) : (s.setPoint i x).curve j = s.curve j := rfl
@[simp] theorem State.setPoint_actuator (i : PointIx) (x : Point) (j : ActIx) : (s.setPoint i x).actuator j = s.actuator j := rfl
@[simp] theorem State.setPoint_interlock (i : PointIx) (x : Point) (j : InterlockIx) : (s.setPoint i x).interlock j = s.interlock j := rfl
@[simp] theorem State.setPoint_pin (i : PointIx) (x : Point) (j : PinIx) : (s.setPoint i x).pin j = s.pin j := rfl
@[simp] theorem State.setPoint_counter (i : PointIx) (x : Point) (j : CounterIx) : (s.setPoint i x).counter j = s.counter j := rfl
@[simp] theorem State.setPoint_stream (i : PointIx) (x : Point) (j : StreamIx) : (s.setPoint i x).stream j = s.stream j := rfl
@[simp] theorem State.setPoint_cell (i : PointIx) (x : Point) (j : CellIx) : (s.setPoint i x).cell j = s.cell j := rfl
@[simp] theorem State.setPoint_chain (i : PointIx) (x : Point) (j : ChainIx) : (s.setPoint i x).chain j = s.chain j := rfl
@[simp] theorem State.setPoint_tank (i : PointIx) (x : Point) (j : TankIx) : (s.setPoint i x).tank j = s.tank j := rfl
@[simp] theorem State.setPoint_node (i : PointIx) (x : Point) (j : NodeIx) : (s.setPoint i x).node j = s.node j := rfl
@[simp] theorem State.setPoint_scanEntry (i : PointIx) (x : Point) (j : ScanIx) : (s.setPoint i x).scanEntry j = s.scanEntry j := rfl
@[simp] theorem State.setPoint_point_self (i : PointIx) (x : Point) : (s.setPoint i x).point i = x := by
  simp [State.setPoint, State.point]
theorem State.setPoint_point_ne (i j : PointIx) (x : Point) (h : j ≠ i) : (s.setPoint i x).point j = s.point j := by
  have h2 : i.val ≠ j.val := fun e => h (Fin.ext e.symm)
  simp [State.setPoint, State.point, h2]
theorem State.setPoint_point (i j : PointIx) (x : Point) : (s.setPoint i x).point j = if j = i then x else s.point j := by
  by_cases h : j = i
  · simp [h]
  · simp [h, State.setPoint_point_ne]
@[simp] theorem State.setPoint_setPoint (i : PointIx) (x y : Point) : (s.setPoint i x).setPoint i y = s.setPoint i y := by
  simp [State.setPoint]
@[simp] theorem State.setPoint_point_eq (i : PointIx) : s.setPoint i (s.point i) = s := by
  simp [State.setPoint, State.point]

/-! ### setCurve -/

@[simp] theorem State.setCurve_pending (i : CurveIx) (x : Curve) : (s.setCurve i x).pending = s.pending := rfl
@[simp] theorem State.setCurve_port (i : CurveIx) (x : Curve) : (s.setCurve i x).port = s.port := rfl
@[simp] theorem State.setCurve_reports (i : CurveIx) (x : Curve) : (s.setCurve i x).reports = s.reports := rfl
@[simp] theorem State.setCurve_line (i : CurveIx) (x : Curve) : (s.setCurve i x).line = s.line := rfl
@[simp] theorem State.setCurve_points (i : CurveIx) (x : Curve) : (s.setCurve i x).points = s.points := rfl
@[simp] theorem State.setCurve_actuators (i : CurveIx) (x : Curve) : (s.setCurve i x).actuators = s.actuators := rfl
@[simp] theorem State.setCurve_interlocks (i : CurveIx) (x : Curve) : (s.setCurve i x).interlocks = s.interlocks := rfl
@[simp] theorem State.setCurve_pins (i : CurveIx) (x : Curve) : (s.setCurve i x).pins = s.pins := rfl
@[simp] theorem State.setCurve_counters (i : CurveIx) (x : Curve) : (s.setCurve i x).counters = s.counters := rfl
@[simp] theorem State.setCurve_streams (i : CurveIx) (x : Curve) : (s.setCurve i x).streams = s.streams := rfl
@[simp] theorem State.setCurve_accounts (i : CurveIx) (x : Curve) : (s.setCurve i x).accounts = s.accounts := rfl
@[simp] theorem State.setCurve_cells (i : CurveIx) (x : Curve) : (s.setCurve i x).cells = s.cells := rfl
@[simp] theorem State.setCurve_chains (i : CurveIx) (x : Curve) : (s.setCurve i x).chains = s.chains := rfl
@[simp] theorem State.setCurve_tanks (i : CurveIx) (x : Curve) : (s.setCurve i x).tanks = s.tanks := rfl
@[simp] theorem State.setCurve_disch (i : CurveIx) (x : Curve) : (s.setCurve i x).disch = s.disch := rfl
@[simp] theorem State.setCurve_timers (i : CurveIx) (x : Curve) : (s.setCurve i x).timers = s.timers := rfl
@[simp] theorem State.setCurve_curves (i : CurveIx) (x : Curve) : (s.setCurve i x).curves = s.curves.set i x := rfl
@[simp] theorem State.setCurve_point (i : CurveIx) (x : Curve) (j : PointIx) : (s.setCurve i x).point j = s.point j := rfl
@[simp] theorem State.setCurve_actuator (i : CurveIx) (x : Curve) (j : ActIx) : (s.setCurve i x).actuator j = s.actuator j := rfl
@[simp] theorem State.setCurve_interlock (i : CurveIx) (x : Curve) (j : InterlockIx) : (s.setCurve i x).interlock j = s.interlock j := rfl
@[simp] theorem State.setCurve_pin (i : CurveIx) (x : Curve) (j : PinIx) : (s.setCurve i x).pin j = s.pin j := rfl
@[simp] theorem State.setCurve_counter (i : CurveIx) (x : Curve) (j : CounterIx) : (s.setCurve i x).counter j = s.counter j := rfl
@[simp] theorem State.setCurve_stream (i : CurveIx) (x : Curve) (j : StreamIx) : (s.setCurve i x).stream j = s.stream j := rfl
@[simp] theorem State.setCurve_cell (i : CurveIx) (x : Curve) (j : CellIx) : (s.setCurve i x).cell j = s.cell j := rfl
@[simp] theorem State.setCurve_chain (i : CurveIx) (x : Curve) (j : ChainIx) : (s.setCurve i x).chain j = s.chain j := rfl
@[simp] theorem State.setCurve_tank (i : CurveIx) (x : Curve) (j : TankIx) : (s.setCurve i x).tank j = s.tank j := rfl
@[simp] theorem State.setCurve_node (i : CurveIx) (x : Curve) (j : NodeIx) : (s.setCurve i x).node j = s.node j := rfl
@[simp] theorem State.setCurve_scanEntry (i : CurveIx) (x : Curve) (j : ScanIx) : (s.setCurve i x).scanEntry j = s.scanEntry j := rfl
@[simp] theorem State.setCurve_curve_self (i : CurveIx) (x : Curve) : (s.setCurve i x).curve i = x := by
  simp [State.setCurve, State.curve]
theorem State.setCurve_curve_ne (i j : CurveIx) (x : Curve) (h : j ≠ i) : (s.setCurve i x).curve j = s.curve j := by
  have h2 : i.val ≠ j.val := fun e => h (Fin.ext e.symm)
  simp [State.setCurve, State.curve, h2]
theorem State.setCurve_curve (i j : CurveIx) (x : Curve) : (s.setCurve i x).curve j = if j = i then x else s.curve j := by
  by_cases h : j = i
  · simp [h]
  · simp [h, State.setCurve_curve_ne]
@[simp] theorem State.setCurve_setCurve (i : CurveIx) (x y : Curve) : (s.setCurve i x).setCurve i y = s.setCurve i y := by
  simp [State.setCurve]
@[simp] theorem State.setCurve_curve_eq (i : CurveIx) : s.setCurve i (s.curve i) = s := by
  simp [State.setCurve, State.curve]

/-! ### setActuator -/

@[simp] theorem State.setActuator_pending (i : ActIx) (x : Actuator) : (s.setActuator i x).pending = s.pending := rfl
@[simp] theorem State.setActuator_port (i : ActIx) (x : Actuator) : (s.setActuator i x).port = s.port := rfl
@[simp] theorem State.setActuator_reports (i : ActIx) (x : Actuator) : (s.setActuator i x).reports = s.reports := rfl
@[simp] theorem State.setActuator_line (i : ActIx) (x : Actuator) : (s.setActuator i x).line = s.line := rfl
@[simp] theorem State.setActuator_points (i : ActIx) (x : Actuator) : (s.setActuator i x).points = s.points := rfl
@[simp] theorem State.setActuator_curves (i : ActIx) (x : Actuator) : (s.setActuator i x).curves = s.curves := rfl
@[simp] theorem State.setActuator_interlocks (i : ActIx) (x : Actuator) : (s.setActuator i x).interlocks = s.interlocks := rfl
@[simp] theorem State.setActuator_pins (i : ActIx) (x : Actuator) : (s.setActuator i x).pins = s.pins := rfl
@[simp] theorem State.setActuator_counters (i : ActIx) (x : Actuator) : (s.setActuator i x).counters = s.counters := rfl
@[simp] theorem State.setActuator_streams (i : ActIx) (x : Actuator) : (s.setActuator i x).streams = s.streams := rfl
@[simp] theorem State.setActuator_accounts (i : ActIx) (x : Actuator) : (s.setActuator i x).accounts = s.accounts := rfl
@[simp] theorem State.setActuator_cells (i : ActIx) (x : Actuator) : (s.setActuator i x).cells = s.cells := rfl
@[simp] theorem State.setActuator_chains (i : ActIx) (x : Actuator) : (s.setActuator i x).chains = s.chains := rfl
@[simp] theorem State.setActuator_tanks (i : ActIx) (x : Actuator) : (s.setActuator i x).tanks = s.tanks := rfl
@[simp] theorem State.setActuator_disch (i : ActIx) (x : Actuator) : (s.setActuator i x).disch = s.disch := rfl
@[simp] theorem State.setActuator_timers (i : ActIx) (x : Actuator) : (s.setActuator i x).timers = s.timers := rfl
@[simp] theorem State.setActuator_actuators (i : ActIx) (x : Actuator) : (s.setActuator i x).actuators = s.actuators.set i x := rfl
@[simp] theorem State.setActuator_point (i : ActIx) (x : Actuator) (j : PointIx) : (s.setActuator i x).point j = s.point j := rfl
@[simp] theorem State.setActuator_curve (i : ActIx) (x : Actuator) (j : CurveIx) : (s.setActuator i x).curve j = s.curve j := rfl
@[simp] theorem State.setActuator_interlock (i : ActIx) (x : Actuator) (j : InterlockIx) : (s.setActuator i x).interlock j = s.interlock j := rfl
@[simp] theorem State.setActuator_pin (i : ActIx) (x : Actuator) (j : PinIx) : (s.setActuator i x).pin j = s.pin j := rfl
@[simp] theorem State.setActuator_counter (i : ActIx) (x : Actuator) (j : CounterIx) : (s.setActuator i x).counter j = s.counter j := rfl
@[simp] theorem State.setActuator_stream (i : ActIx) (x : Actuator) (j : StreamIx) : (s.setActuator i x).stream j = s.stream j := rfl
@[simp] theorem State.setActuator_cell (i : ActIx) (x : Actuator) (j : CellIx) : (s.setActuator i x).cell j = s.cell j := rfl
@[simp] theorem State.setActuator_chain (i : ActIx) (x : Actuator) (j : ChainIx) : (s.setActuator i x).chain j = s.chain j := rfl
@[simp] theorem State.setActuator_tank (i : ActIx) (x : Actuator) (j : TankIx) : (s.setActuator i x).tank j = s.tank j := rfl
@[simp] theorem State.setActuator_node (i : ActIx) (x : Actuator) (j : NodeIx) : (s.setActuator i x).node j = s.node j := rfl
@[simp] theorem State.setActuator_scanEntry (i : ActIx) (x : Actuator) (j : ScanIx) : (s.setActuator i x).scanEntry j = s.scanEntry j := rfl
@[simp] theorem State.setActuator_actuator_self (i : ActIx) (x : Actuator) : (s.setActuator i x).actuator i = x := by
  simp [State.setActuator, State.actuator]
theorem State.setActuator_actuator_ne (i j : ActIx) (x : Actuator) (h : j ≠ i) : (s.setActuator i x).actuator j = s.actuator j := by
  have h2 : i.val ≠ j.val := fun e => h (Fin.ext e.symm)
  simp [State.setActuator, State.actuator, h2]
theorem State.setActuator_actuator (i j : ActIx) (x : Actuator) : (s.setActuator i x).actuator j = if j = i then x else s.actuator j := by
  by_cases h : j = i
  · simp [h]
  · simp [h, State.setActuator_actuator_ne]
@[simp] theorem State.setActuator_setActuator (i : ActIx) (x y : Actuator) : (s.setActuator i x).setActuator i y = s.setActuator i y := by
  simp [State.setActuator]
@[simp] theorem State.setActuator_actuator_eq (i : ActIx) : s.setActuator i (s.actuator i) = s := by
  simp [State.setActuator, State.actuator]

/-! ### setInterlock -/

@[simp] theorem State.setInterlock_pending (i : InterlockIx) (x : Option Interlock) : (s.setInterlock i x).pending = s.pending := rfl
@[simp] theorem State.setInterlock_port (i : InterlockIx) (x : Option Interlock) : (s.setInterlock i x).port = s.port := rfl
@[simp] theorem State.setInterlock_reports (i : InterlockIx) (x : Option Interlock) : (s.setInterlock i x).reports = s.reports := rfl
@[simp] theorem State.setInterlock_line (i : InterlockIx) (x : Option Interlock) : (s.setInterlock i x).line = s.line := rfl
@[simp] theorem State.setInterlock_points (i : InterlockIx) (x : Option Interlock) : (s.setInterlock i x).points = s.points := rfl
@[simp] theorem State.setInterlock_curves (i : InterlockIx) (x : Option Interlock) : (s.setInterlock i x).curves = s.curves := rfl
@[simp] theorem State.setInterlock_actuators (i : InterlockIx) (x : Option Interlock) : (s.setInterlock i x).actuators = s.actuators := rfl
@[simp] theorem State.setInterlock_pins (i : InterlockIx) (x : Option Interlock) : (s.setInterlock i x).pins = s.pins := rfl
@[simp] theorem State.setInterlock_counters (i : InterlockIx) (x : Option Interlock) : (s.setInterlock i x).counters = s.counters := rfl
@[simp] theorem State.setInterlock_streams (i : InterlockIx) (x : Option Interlock) : (s.setInterlock i x).streams = s.streams := rfl
@[simp] theorem State.setInterlock_accounts (i : InterlockIx) (x : Option Interlock) : (s.setInterlock i x).accounts = s.accounts := rfl
@[simp] theorem State.setInterlock_cells (i : InterlockIx) (x : Option Interlock) : (s.setInterlock i x).cells = s.cells := rfl
@[simp] theorem State.setInterlock_chains (i : InterlockIx) (x : Option Interlock) : (s.setInterlock i x).chains = s.chains := rfl
@[simp] theorem State.setInterlock_tanks (i : InterlockIx) (x : Option Interlock) : (s.setInterlock i x).tanks = s.tanks := rfl
@[simp] theorem State.setInterlock_disch (i : InterlockIx) (x : Option Interlock) : (s.setInterlock i x).disch = s.disch := rfl
@[simp] theorem State.setInterlock_timers (i : InterlockIx) (x : Option Interlock) : (s.setInterlock i x).timers = s.timers := rfl
@[simp] theorem State.setInterlock_interlocks (i : InterlockIx) (x : Option Interlock) : (s.setInterlock i x).interlocks = s.interlocks.set i x := rfl
@[simp] theorem State.setInterlock_point (i : InterlockIx) (x : Option Interlock) (j : PointIx) : (s.setInterlock i x).point j = s.point j := rfl
@[simp] theorem State.setInterlock_curve (i : InterlockIx) (x : Option Interlock) (j : CurveIx) : (s.setInterlock i x).curve j = s.curve j := rfl
@[simp] theorem State.setInterlock_actuator (i : InterlockIx) (x : Option Interlock) (j : ActIx) : (s.setInterlock i x).actuator j = s.actuator j := rfl
@[simp] theorem State.setInterlock_pin (i : InterlockIx) (x : Option Interlock) (j : PinIx) : (s.setInterlock i x).pin j = s.pin j := rfl
@[simp] theorem State.setInterlock_counter (i : InterlockIx) (x : Option Interlock) (j : CounterIx) : (s.setInterlock i x).counter j = s.counter j := rfl
@[simp] theorem State.setInterlock_stream (i : InterlockIx) (x : Option Interlock) (j : StreamIx) : (s.setInterlock i x).stream j = s.stream j := rfl
@[simp] theorem State.setInterlock_cell (i : InterlockIx) (x : Option Interlock) (j : CellIx) : (s.setInterlock i x).cell j = s.cell j := rfl
@[simp] theorem State.setInterlock_chain (i : InterlockIx) (x : Option Interlock) (j : ChainIx) : (s.setInterlock i x).chain j = s.chain j := rfl
@[simp] theorem State.setInterlock_tank (i : InterlockIx) (x : Option Interlock) (j : TankIx) : (s.setInterlock i x).tank j = s.tank j := rfl
@[simp] theorem State.setInterlock_node (i : InterlockIx) (x : Option Interlock) (j : NodeIx) : (s.setInterlock i x).node j = s.node j := rfl
@[simp] theorem State.setInterlock_scanEntry (i : InterlockIx) (x : Option Interlock) (j : ScanIx) : (s.setInterlock i x).scanEntry j = s.scanEntry j := rfl
@[simp] theorem State.setInterlock_interlock_self (i : InterlockIx) (x : Option Interlock) : (s.setInterlock i x).interlock i = x := by
  simp [State.setInterlock, State.interlock]
theorem State.setInterlock_interlock_ne (i j : InterlockIx) (x : Option Interlock) (h : j ≠ i) : (s.setInterlock i x).interlock j = s.interlock j := by
  have h2 : i.val ≠ j.val := fun e => h (Fin.ext e.symm)
  simp [State.setInterlock, State.interlock, h2]
theorem State.setInterlock_interlock (i j : InterlockIx) (x : Option Interlock) : (s.setInterlock i x).interlock j = if j = i then x else s.interlock j := by
  by_cases h : j = i
  · simp [h]
  · simp [h, State.setInterlock_interlock_ne]
@[simp] theorem State.setInterlock_setInterlock (i : InterlockIx) (x y : Option Interlock) : (s.setInterlock i x).setInterlock i y = s.setInterlock i y := by
  simp [State.setInterlock]
@[simp] theorem State.setInterlock_interlock_eq (i : InterlockIx) : s.setInterlock i (s.interlock i) = s := by
  simp [State.setInterlock, State.interlock]

/-! ### setPin -/

@[simp] theorem State.setPin_pending (i : PinIx) (x : Pin) : (s.setPin i x).pending = s.pending := rfl
@[simp] theorem State.setPin_port (i : PinIx) (x : Pin) : (s.setPin i x).port = s.port := rfl
@[simp] theorem State.setPin_reports (i : PinIx) (x : Pin) : (s.setPin i x).reports = s.reports := rfl
@[simp] theorem State.setPin_line (i : PinIx) (x : Pin) : (s.setPin i x).line = s.line := rfl
@[simp] theorem State.setPin_points (i : PinIx) (x : Pin) : (s.setPin i x).points = s.points := rfl
@[simp] theorem State.setPin_curves (i : PinIx) (x : Pin) : (s.setPin i x).curves = s.curves := rfl
@[simp] theorem State.setPin_actuators (i : PinIx) (x : Pin) : (s.setPin i x).actuators = s.actuators := rfl
@[simp] theorem State.setPin_interlocks (i : PinIx) (x : Pin) : (s.setPin i x).interlocks = s.interlocks := rfl
@[simp] theorem State.setPin_counters (i : PinIx) (x : Pin) : (s.setPin i x).counters = s.counters := rfl
@[simp] theorem State.setPin_streams (i : PinIx) (x : Pin) : (s.setPin i x).streams = s.streams := rfl
@[simp] theorem State.setPin_accounts (i : PinIx) (x : Pin) : (s.setPin i x).accounts = s.accounts := rfl
@[simp] theorem State.setPin_cells (i : PinIx) (x : Pin) : (s.setPin i x).cells = s.cells := rfl
@[simp] theorem State.setPin_chains (i : PinIx) (x : Pin) : (s.setPin i x).chains = s.chains := rfl
@[simp] theorem State.setPin_tanks (i : PinIx) (x : Pin) : (s.setPin i x).tanks = s.tanks := rfl
@[simp] theorem State.setPin_disch (i : PinIx) (x : Pin) : (s.setPin i x).disch = s.disch := rfl
@[simp] theorem State.setPin_timers (i : PinIx) (x : Pin) : (s.setPin i x).timers = s.timers := rfl
@[simp] theorem State.setPin_pins (i : PinIx) (x : Pin) : (s.setPin i x).pins = s.pins.set i x := rfl
@[simp] theorem State.setPin_point (i : PinIx) (x : Pin) (j : PointIx) : (s.setPin i x).point j = s.point j := rfl
@[simp] theorem State.setPin_curve (i : PinIx) (x : Pin) (j : CurveIx) : (s.setPin i x).curve j = s.curve j := rfl
@[simp] theorem State.setPin_actuator (i : PinIx) (x : Pin) (j : ActIx) : (s.setPin i x).actuator j = s.actuator j := rfl
@[simp] theorem State.setPin_interlock (i : PinIx) (x : Pin) (j : InterlockIx) : (s.setPin i x).interlock j = s.interlock j := rfl
@[simp] theorem State.setPin_counter (i : PinIx) (x : Pin) (j : CounterIx) : (s.setPin i x).counter j = s.counter j := rfl
@[simp] theorem State.setPin_stream (i : PinIx) (x : Pin) (j : StreamIx) : (s.setPin i x).stream j = s.stream j := rfl
@[simp] theorem State.setPin_cell (i : PinIx) (x : Pin) (j : CellIx) : (s.setPin i x).cell j = s.cell j := rfl
@[simp] theorem State.setPin_chain (i : PinIx) (x : Pin) (j : ChainIx) : (s.setPin i x).chain j = s.chain j := rfl
@[simp] theorem State.setPin_tank (i : PinIx) (x : Pin) (j : TankIx) : (s.setPin i x).tank j = s.tank j := rfl
@[simp] theorem State.setPin_node (i : PinIx) (x : Pin) (j : NodeIx) : (s.setPin i x).node j = s.node j := rfl
@[simp] theorem State.setPin_scanEntry (i : PinIx) (x : Pin) (j : ScanIx) : (s.setPin i x).scanEntry j = s.scanEntry j := rfl
@[simp] theorem State.setPin_pin_self (i : PinIx) (x : Pin) : (s.setPin i x).pin i = x := by
  simp [State.setPin, State.pin]
theorem State.setPin_pin_ne (i j : PinIx) (x : Pin) (h : j ≠ i) : (s.setPin i x).pin j = s.pin j := by
  have h2 : i.val ≠ j.val := fun e => h (Fin.ext e.symm)
  simp [State.setPin, State.pin, h2]
theorem State.setPin_pin (i j : PinIx) (x : Pin) : (s.setPin i x).pin j = if j = i then x else s.pin j := by
  by_cases h : j = i
  · simp [h]
  · simp [h, State.setPin_pin_ne]
@[simp] theorem State.setPin_setPin (i : PinIx) (x y : Pin) : (s.setPin i x).setPin i y = s.setPin i y := by
  simp [State.setPin]
@[simp] theorem State.setPin_pin_eq (i : PinIx) : s.setPin i (s.pin i) = s := by
  simp [State.setPin, State.pin]

/-! ### setCounter -/

@[simp] theorem State.setCounter_pending (i : CounterIx) (x : BitVec 16) : (s.setCounter i x).pending = s.pending := rfl
@[simp] theorem State.setCounter_port (i : CounterIx) (x : BitVec 16) : (s.setCounter i x).port = s.port := rfl
@[simp] theorem State.setCounter_reports (i : CounterIx) (x : BitVec 16) : (s.setCounter i x).reports = s.reports := rfl
@[simp] theorem State.setCounter_line (i : CounterIx) (x : BitVec 16) : (s.setCounter i x).line = s.line := rfl
@[simp] theorem State.setCounter_points (i : CounterIx) (x : BitVec 16) : (s.setCounter i x).points = s.points := rfl
@[simp] theorem State.setCounter_curves (i : CounterIx) (x : BitVec 16) : (s.setCounter i x).curves = s.curves := rfl
@[simp] theorem State.setCounter_actuators (i : CounterIx) (x : BitVec 16) : (s.setCounter i x).actuators = s.actuators := rfl
@[simp] theorem State.setCounter_interlocks (i : CounterIx) (x : BitVec 16) : (s.setCounter i x).interlocks = s.interlocks := rfl
@[simp] theorem State.setCounter_pins (i : CounterIx) (x : BitVec 16) : (s.setCounter i x).pins = s.pins := rfl
@[simp] theorem State.setCounter_streams (i : CounterIx) (x : BitVec 16) : (s.setCounter i x).streams = s.streams := rfl
@[simp] theorem State.setCounter_accounts (i : CounterIx) (x : BitVec 16) : (s.setCounter i x).accounts = s.accounts := rfl
@[simp] theorem State.setCounter_cells (i : CounterIx) (x : BitVec 16) : (s.setCounter i x).cells = s.cells := rfl
@[simp] theorem State.setCounter_chains (i : CounterIx) (x : BitVec 16) : (s.setCounter i x).chains = s.chains := rfl
@[simp] theorem State.setCounter_tanks (i : CounterIx) (x : BitVec 16) : (s.setCounter i x).tanks = s.tanks := rfl
@[simp] theorem State.setCounter_disch (i : CounterIx) (x : BitVec 16) : (s.setCounter i x).disch = s.disch := rfl
@[simp] theorem State.setCounter_timers (i : CounterIx) (x : BitVec 16) : (s.setCounter i x).timers = s.timers := rfl
@[simp] theorem State.setCounter_counters (i : CounterIx) (x : BitVec 16) : (s.setCounter i x).counters = s.counters.set i x := rfl
@[simp] theorem State.setCounter_point (i : CounterIx) (x : BitVec 16) (j : PointIx) : (s.setCounter i x).point j = s.point j := rfl
@[simp] theorem State.setCounter_curve (i : CounterIx) (x : BitVec 16) (j : CurveIx) : (s.setCounter i x).curve j = s.curve j := rfl
@[simp] theorem State.setCounter_actuator (i : CounterIx) (x : BitVec 16) (j : ActIx) : (s.setCounter i x).actuator j = s.actuator j := rfl
@[simp] theorem State.setCounter_interlock (i : CounterIx) (x : BitVec 16) (j : InterlockIx) : (s.setCounter i x).interlock j = s.interlock j := rfl
@[simp] theorem State.setCounter_pin (i : CounterIx) (x : BitVec 16) (j : PinIx) : (s.setCounter i x).pin j = s.pin j := rfl
@[simp] theorem State.setCounter_stream (i : CounterIx) (x : BitVec 16) (j : StreamIx) : (s.setCounter i x).stream j = s.stream j := rfl
@[simp] theorem State.setCounter_cell (i : CounterIx) (x : BitVec 16) (j : CellIx) : (s.setCounter i x).cell j = s.cell j := rfl
@[simp] theorem State.setCounter_chain (i : CounterIx) (x : BitVec 16) (j : ChainIx) : (s.setCounter i x).chain j = s.chain j := rfl
@[simp] theorem State.setCounter_tank (i : CounterIx) (x : BitVec 16) (j : TankIx) : (s.setCounter i x).tank j = s.tank j := rfl
@[simp] theorem State.setCounter_node (i : CounterIx) (x : BitVec 16) (j : NodeIx) : (s.setCounter i x).node j = s.node j := rfl
@[simp] theorem State.setCounter_scanEntry (i : CounterIx) (x : BitVec 16) (j : ScanIx) : (s.setCounter i x).scanEntry j = s.scanEntry j := rfl
@[simp] theorem State.setCounter_counter_self (i : CounterIx) (x : BitVec 16) : (s.setCounter i x).counter i = x := by
  simp [State.setCounter, State.counter]
theorem State.setCounter_counter_ne (i j : CounterIx) (x : BitVec 16) (h : j ≠ i) : (s.setCounter i x).counter j = s.counter j := by
  have h2 : i.val ≠ j.val := fun e => h (Fin.ext e.symm)
  simp [State.setCounter, State.counter, h2]
theorem State.setCounter_counter (i j : CounterIx) (x : BitVec 16) : (s.setCounter i x).counter j = if j = i then x else s.counter j := by
  by_cases h : j = i
  · simp [h]
  · simp [h, State.setCounter_counter_ne]
@[simp] theorem State.setCounter_setCounter (i : CounterIx) (x y : BitVec 16) : (s.setCounter i x).setCounter i y = s.setCounter i y := by
  simp [State.setCounter]
@[simp] theorem State.setCounter_counter_eq (i : CounterIx) : s.setCounter i (s.counter i) = s := by
  simp [State.setCounter, State.counter]

/-! ### setStream -/

@[simp] theorem State.setStream_pending (i : StreamIx) (x : Stream) : (s.setStream i x).pending = s.pending := rfl
@[simp] theorem State.setStream_port (i : StreamIx) (x : Stream) : (s.setStream i x).port = s.port := rfl
@[simp] theorem State.setStream_reports (i : StreamIx) (x : Stream) : (s.setStream i x).reports = s.reports := rfl
@[simp] theorem State.setStream_line (i : StreamIx) (x : Stream) : (s.setStream i x).line = s.line := rfl
@[simp] theorem State.setStream_points (i : StreamIx) (x : Stream) : (s.setStream i x).points = s.points := rfl
@[simp] theorem State.setStream_curves (i : StreamIx) (x : Stream) : (s.setStream i x).curves = s.curves := rfl
@[simp] theorem State.setStream_actuators (i : StreamIx) (x : Stream) : (s.setStream i x).actuators = s.actuators := rfl
@[simp] theorem State.setStream_interlocks (i : StreamIx) (x : Stream) : (s.setStream i x).interlocks = s.interlocks := rfl
@[simp] theorem State.setStream_pins (i : StreamIx) (x : Stream) : (s.setStream i x).pins = s.pins := rfl
@[simp] theorem State.setStream_counters (i : StreamIx) (x : Stream) : (s.setStream i x).counters = s.counters := rfl
@[simp] theorem State.setStream_accounts (i : StreamIx) (x : Stream) : (s.setStream i x).accounts = s.accounts := rfl
@[simp] theorem State.setStream_cells (i : StreamIx) (x : Stream) : (s.setStream i x).cells = s.cells := rfl
@[simp] theorem State.setStream_chains (i : StreamIx) (x : Stream) : (s.setStream i x).chains = s.chains := rfl
@[simp] theorem State.setStream_tanks (i : StreamIx) (x : Stream) : (s.setStream i x).tanks = s.tanks := rfl
@[simp] theorem State.setStream_disch (i : StreamIx) (x : Stream) : (s.setStream i x).disch = s.disch := rfl
@[simp] theorem State.setStream_timers (i : StreamIx) (x : Stream) : (s.setStream i x).timers = s.timers := rfl
@[simp] theorem State.setStream_streams (i : StreamIx) (x : Stream) : (s.setStream i x).streams = s.streams.set i x := rfl
@[simp] theorem State.setStream_point (i : StreamIx) (x : Stream) (j : PointIx) : (s.setStream i x).point j = s.point j := rfl
@[simp] theorem State.setStream_curve (i : StreamIx) (x : Stream) (j : CurveIx) : (s.setStream i x).curve j = s.curve j := rfl
@[simp] theorem State.setStream_actuator (i : StreamIx) (x : Stream) (j : ActIx) : (s.setStream i x).actuator j = s.actuator j := rfl
@[simp] theorem State.setStream_interlock (i : StreamIx) (x : Stream) (j : InterlockIx) : (s.setStream i x).interlock j = s.interlock j := rfl
@[simp] theorem State.setStream_pin (i : StreamIx) (x : Stream) (j : PinIx) : (s.setStream i x).pin j = s.pin j := rfl
@[simp] theorem State.setStream_counter (i : StreamIx) (x : Stream) (j : CounterIx) : (s.setStream i x).counter j = s.counter j := rfl
@[simp] theorem State.setStream_cell (i : StreamIx) (x : Stream) (j : CellIx) : (s.setStream i x).cell j = s.cell j := rfl
@[simp] theorem State.setStream_chain (i : StreamIx) (x : Stream) (j : ChainIx) : (s.setStream i x).chain j = s.chain j := rfl
@[simp] theorem State.setStream_tank (i : StreamIx) (x : Stream) (j : TankIx) : (s.setStream i x).tank j = s.tank j := rfl
@[simp] theorem State.setStream_node (i : StreamIx) (x : Stream) (j : NodeIx) : (s.setStream i x).node j = s.node j := rfl
@[simp] theorem State.setStream_scanEntry (i : StreamIx) (x : Stream) (j : ScanIx) : (s.setStream i x).scanEntry j = s.scanEntry j := rfl
@[simp] theorem State.setStream_stream_self (i : StreamIx) (x : Stream) : (s.setStream i x).stream i = x := by
  simp [State.setStream, State.stream]
theorem State.setStream_stream_ne (i j : StreamIx) (x : Stream) (h : j ≠ i) : (s.setStream i x).stream j = s.stream j := by
  have h2 : i.val ≠ j.val := fun e => h (Fin.ext e.symm)
  simp [State.setStream, State.stream, h2]
theorem State.setStream_stream (i j : StreamIx) (x : Stream) : (s.setStream i x).stream j = if j = i then x else s.stream j := by
  by_cases h : j = i
  · simp [h]
  · simp [h, State.setStream_stream_ne]
@[simp] theorem State.setStream_setStream (i : StreamIx) (x y : Stream) : (s.setStream i x).setStream i y = s.setStream i y := by
  simp [State.setStream]
@[simp] theorem State.setStream_stream_eq (i : StreamIx) : s.setStream i (s.stream i) = s := by
  simp [State.setStream, State.stream]

/-! ### setCell -/

@[simp] theorem State.setCell_pending (i : CellIx) (x : Cell) : (s.setCell i x).pending = s.pending := rfl
@[simp] theorem State.setCell_port (i : CellIx) (x : Cell) : (s.setCell i x).port = s.port := rfl
@[simp] theorem State.setCell_reports (i : CellIx) (x : Cell) : (s.setCell i x).reports = s.reports := rfl
@[simp] theorem State.setCell_line (i : CellIx) (x : Cell) : (s.setCell i x).line = s.line := rfl
@[simp] theorem State.setCell_points (i : CellIx) (x : Cell) : (s.setCell i x).points = s.points := rfl
@[simp] theorem State.setCell_curves (i : CellIx) (x : Cell) : (s.setCell i x).curves = s.curves := rfl
@[simp] theorem State.setCell_actuators (i : CellIx) (x : Cell) : (s.setCell i x).actuators = s.actuators := rfl
@[simp] theorem State.setCell_interlocks (i : CellIx) (x : Cell) : (s.setCell i x).interlocks = s.interlocks := rfl
@[simp] theorem State.setCell_pins (i : CellIx) (x : Cell) : (s.setCell i x).pins = s.pins := rfl
@[simp] theorem State.setCell_counters (i : CellIx) (x : Cell) : (s.setCell i x).counters = s.counters := rfl
@[simp] theorem State.setCell_streams (i : CellIx) (x : Cell) : (s.setCell i x).streams = s.streams := rfl
@[simp] theorem State.setCell_accounts (i : CellIx) (x : Cell) : (s.setCell i x).accounts = s.accounts := rfl
@[simp] theorem State.setCell_chains (i : CellIx) (x : Cell) : (s.setCell i x).chains = s.chains := rfl
@[simp] theorem State.setCell_tanks (i : CellIx) (x : Cell) : (s.setCell i x).tanks = s.tanks := rfl
@[simp] theorem State.setCell_disch (i : CellIx) (x : Cell) : (s.setCell i x).disch = s.disch := rfl
@[simp] theorem State.setCell_timers (i : CellIx) (x : Cell) : (s.setCell i x).timers = s.timers := rfl
@[simp] theorem State.setCell_cells (i : CellIx) (x : Cell) : (s.setCell i x).cells = s.cells.set i x := rfl
@[simp] theorem State.setCell_point (i : CellIx) (x : Cell) (j : PointIx) : (s.setCell i x).point j = s.point j := rfl
@[simp] theorem State.setCell_curve (i : CellIx) (x : Cell) (j : CurveIx) : (s.setCell i x).curve j = s.curve j := rfl
@[simp] theorem State.setCell_actuator (i : CellIx) (x : Cell) (j : ActIx) : (s.setCell i x).actuator j = s.actuator j := rfl
@[simp] theorem State.setCell_interlock (i : CellIx) (x : Cell) (j : InterlockIx) : (s.setCell i x).interlock j = s.interlock j := rfl
@[simp] theorem State.setCell_pin (i : CellIx) (x : Cell) (j : PinIx) : (s.setCell i x).pin j = s.pin j := rfl
@[simp] theorem State.setCell_counter (i : CellIx) (x : Cell) (j : CounterIx) : (s.setCell i x).counter j = s.counter j := rfl
@[simp] theorem State.setCell_stream (i : CellIx) (x : Cell) (j : StreamIx) : (s.setCell i x).stream j = s.stream j := rfl
@[simp] theorem State.setCell_chain (i : CellIx) (x : Cell) (j : ChainIx) : (s.setCell i x).chain j = s.chain j := rfl
@[simp] theorem State.setCell_tank (i : CellIx) (x : Cell) (j : TankIx) : (s.setCell i x).tank j = s.tank j := rfl
@[simp] theorem State.setCell_node (i : CellIx) (x : Cell) (j : NodeIx) : (s.setCell i x).node j = s.node j := rfl
@[simp] theorem State.setCell_scanEntry (i : CellIx) (x : Cell) (j : ScanIx) : (s.setCell i x).scanEntry j = s.scanEntry j := rfl
@[simp] theorem State.setCell_cell_self (i : CellIx) (x : Cell) : (s.setCell i x).cell i = x := by
  simp [State.setCell, State.cell]
theorem State.setCell_cell_ne (i j : CellIx) (x : Cell) (h : j ≠ i) : (s.setCell i x).cell j = s.cell j := by
  have h2 : i.val ≠ j.val := fun e => h (Fin.ext e.symm)
  simp [State.setCell, State.cell, h2]
theorem State.setCell_cell (i j : CellIx) (x : Cell) : (s.setCell i x).cell j = if j = i then x else s.cell j := by
  by_cases h : j = i
  · simp [h]
  · simp [h, State.setCell_cell_ne]
@[simp] theorem State.setCell_setCell (i : CellIx) (x y : Cell) : (s.setCell i x).setCell i y = s.setCell i y := by
  simp [State.setCell]
@[simp] theorem State.setCell_cell_eq (i : CellIx) : s.setCell i (s.cell i) = s := by
  simp [State.setCell, State.cell]

/-! ### setChain -/

@[simp] theorem State.setChain_pending (i : ChainIx) (x : Chain) : (s.setChain i x).pending = s.pending := rfl
@[simp] theorem State.setChain_port (i : ChainIx) (x : Chain) : (s.setChain i x).port = s.port := rfl
@[simp] theorem State.setChain_reports (i : ChainIx) (x : Chain) : (s.setChain i x).reports = s.reports := rfl
@[simp] theorem State.setChain_line (i : ChainIx) (x : Chain) : (s.setChain i x).line = s.line := rfl
@[simp] theorem State.setChain_points (i : ChainIx) (x : Chain) : (s.setChain i x).points = s.points := rfl
@[simp] theorem State.setChain_curves (i : ChainIx) (x : Chain) : (s.setChain i x).curves = s.curves := rfl
@[simp] theorem State.setChain_actuators (i : ChainIx) (x : Chain) : (s.setChain i x).actuators = s.actuators := rfl
@[simp] theorem State.setChain_interlocks (i : ChainIx) (x : Chain) : (s.setChain i x).interlocks = s.interlocks := rfl
@[simp] theorem State.setChain_pins (i : ChainIx) (x : Chain) : (s.setChain i x).pins = s.pins := rfl
@[simp] theorem State.setChain_counters (i : ChainIx) (x : Chain) : (s.setChain i x).counters = s.counters := rfl
@[simp] theorem State.setChain_streams (i : ChainIx) (x : Chain) : (s.setChain i x).streams = s.streams := rfl
@[simp] theorem State.setChain_accounts (i : ChainIx) (x : Chain) : (s.setChain i x).accounts = s.accounts := rfl
@[simp] theorem State.setChain_cells (i : ChainIx) (x : Chain) : (s.setChain i x).cells = s.cells := rfl
@[simp] theorem State.setChain_tanks (i : ChainIx) (x : Chain) : (s.setChain i x).tanks = s.tanks := rfl
@[simp] theorem State.setChain_disch (i : ChainIx) (x : Chain) : (s.setChain i x).disch = s.disch := rfl
@[simp] theorem State.setChain_timers (i : ChainIx) (x : Chain) : (s.setChain i x).timers = s.timers := rfl
@[simp] theorem State.setChain_chains (i : ChainIx) (x : Chain) : (s.setChain i x).chains = s.chains.set i x := rfl
@[simp] theorem State.setChain_point (i : ChainIx) (x : Chain) (j : PointIx) : (s.setChain i x).point j = s.point j := rfl
@[simp] theorem State.setChain_curve (i : ChainIx) (x : Chain) (j : CurveIx) : (s.setChain i x).curve j = s.curve j := rfl
@[simp] theorem State.setChain_actuator (i : ChainIx) (x : Chain) (j : ActIx) : (s.setChain i x).actuator j = s.actuator j := rfl
@[simp] theorem State.setChain_interlock (i : ChainIx) (x : Chain) (j : InterlockIx) : (s.setChain i x).interlock j = s.interlock j := rfl
@[simp] theorem State.setChain_pin (i : ChainIx) (x : Chain) (j : PinIx) : (s.setChain i x).pin j = s.pin j := rfl
@[simp] theorem State.setChain_counter (i : ChainIx) (x : Chain) (j : CounterIx) : (s.setChain i x).counter j = s.counter j := rfl
@[simp] theorem State.setChain_stream (i : ChainIx) (x : Chain) (j : StreamIx) : (s.setChain i x).stream j = s.stream j := rfl
@[simp] theorem State.setChain_cell (i : ChainIx) (x : Chain) (j : CellIx) : (s.setChain i x).cell j = s.cell j := rfl
@[simp] theorem State.setChain_tank (i : ChainIx) (x : Chain) (j : TankIx) : (s.setChain i x).tank j = s.tank j := rfl
@[simp] theorem State.setChain_node (i : ChainIx) (x : Chain) (j : NodeIx) : (s.setChain i x).node j = s.node j := rfl
@[simp] theorem State.setChain_scanEntry (i : ChainIx) (x : Chain) (j : ScanIx) : (s.setChain i x).scanEntry j = s.scanEntry j := rfl
@[simp] theorem State.setChain_chain_self (i : ChainIx) (x : Chain) : (s.setChain i x).chain i = x := by
  simp [State.setChain, State.chain]
theorem State.setChain_chain_ne (i j : ChainIx) (x : Chain) (h : j ≠ i) : (s.setChain i x).chain j = s.chain j := by
  have h2 : i.val ≠ j.val := fun e => h (Fin.ext e.symm)
  simp [State.setChain, State.chain, h2]
theorem State.setChain_chain (i j : ChainIx) (x : Chain) : (s.setChain i x).chain j = if j = i then x else s.chain j := by
  by_cases h : j = i
  · simp [h]
  · simp [h, State.setChain_chain_ne]
@[simp] theorem State.setChain_setChain (i : ChainIx) (x y : Chain) : (s.setChain i x).setChain i y = s.setChain i y := by
  simp [State.setChain]
@[simp] theorem State.setChain_chain_eq (i : ChainIx) : s.setChain i (s.chain i) = s := by
  simp [State.setChain, State.chain]

/-! ### setTank -/

@[simp] theorem State.setTank_pending (i : TankIx) (x : Tank) : (s.setTank i x).pending = s.pending := rfl
@[simp] theorem State.setTank_port (i : TankIx) (x : Tank) : (s.setTank i x).port = s.port := rfl
@[simp] theorem State.setTank_reports (i : TankIx) (x : Tank) : (s.setTank i x).reports = s.reports := rfl
@[simp] theorem State.setTank_line (i : TankIx) (x : Tank) : (s.setTank i x).line = s.line := rfl
@[simp] theorem State.setTank_points (i : TankIx) (x : Tank) : (s.setTank i x).points = s.points := rfl
@[simp] theorem State.setTank_curves (i : TankIx) (x : Tank) : (s.setTank i x).curves = s.curves := rfl
@[simp] theorem State.setTank_actuators (i : TankIx) (x : Tank) : (s.setTank i x).actuators = s.actuators := rfl
@[simp] theorem State.setTank_interlocks (i : TankIx) (x : Tank) : (s.setTank i x).interlocks = s.interlocks := rfl
@[simp] theorem State.setTank_pins (i : TankIx) (x : Tank) : (s.setTank i x).pins = s.pins := rfl
@[simp] theorem State.setTank_counters (i : TankIx) (x : Tank) : (s.setTank i x).counters = s.counters := rfl
@[simp] theorem State.setTank_streams (i : TankIx) (x : Tank) : (s.setTank i x).streams = s.streams := rfl
@[simp] theorem State.setTank_accounts (i : TankIx) (x : Tank) : (s.setTank i x).accounts = s.accounts := rfl
@[simp] theorem State.setTank_cells (i : TankIx) (x : Tank) : (s.setTank i x).cells = s.cells := rfl
@[simp] theorem State.setTank_chains (i : TankIx) (x : Tank) : (s.setTank i x).chains = s.chains := rfl
@[simp] theorem State.setTank_disch (i : TankIx) (x : Tank) : (s.setTank i x).disch = s.disch := rfl
@[simp] theorem State.setTank_timers (i : TankIx) (x : Tank) : (s.setTank i x).timers = s.timers := rfl
@[simp] theorem State.setTank_tanks (i : TankIx) (x : Tank) : (s.setTank i x).tanks = s.tanks.set i x := rfl
@[simp] theorem State.setTank_point (i : TankIx) (x : Tank) (j : PointIx) : (s.setTank i x).point j = s.point j := rfl
@[simp] theorem State.setTank_curve (i : TankIx) (x : Tank) (j : CurveIx) : (s.setTank i x).curve j = s.curve j := rfl
@[simp] theorem State.setTank_actuator (i : TankIx) (x : Tank) (j : ActIx) : (s.setTank i x).actuator j = s.actuator j := rfl
@[simp] theorem State.setTank_interlock (i : TankIx) (x : Tank) (j : InterlockIx) : (s.setTank i x).interlock j = s.interlock j := rfl
@[simp] theorem State.setTank_pin (i : TankIx) (x : Tank) (j : PinIx) : (s.setTank i x).pin j = s.pin j := rfl
@[simp] theorem State.setTank_counter (i : TankIx) (x : Tank) (j : CounterIx) : (s.setTank i x).counter j = s.counter j := rfl
@[simp] theorem State.setTank_stream (i : TankIx) (x : Tank) (j : StreamIx) : (s.setTank i x).stream j = s.stream j := rfl
@[simp] theorem State.setTank_cell (i : TankIx) (x : Tank) (j : CellIx) : (s.setTank i x).cell j = s.cell j := rfl
@[simp] theorem State.setTank_chain (i : TankIx) (x : Tank) (j : ChainIx) : (s.setTank i x).chain j = s.chain j := rfl
@[simp] theorem State.setTank_node (i : TankIx) (x : Tank) (j : NodeIx) : (s.setTank i x).node j = s.node j := rfl
@[simp] theorem State.setTank_scanEntry (i : TankIx) (x : Tank) (j : ScanIx) : (s.setTank i x).scanEntry j = s.scanEntry j := rfl
@[simp] theorem State.setTank_tank_self (i : TankIx) (x : Tank) : (s.setTank i x).tank i = x := by
  simp [State.setTank, State.tank]
theorem State.setTank_tank_ne (i j : TankIx) (x : Tank) (h : j ≠ i) : (s.setTank i x).tank j = s.tank j := by
  have h2 : i.val ≠ j.val := fun e => h (Fin.ext e.symm)
  simp [State.setTank, State.tank, h2]
theorem State.setTank_tank (i j : TankIx) (x : Tank) : (s.setTank i x).tank j = if j = i then x else s.tank j := by
  by_cases h : j = i
  · simp [h]
  · simp [h, State.setTank_tank_ne]
@[simp] theorem State.setTank_setTank (i : TankIx) (x y : Tank) : (s.setTank i x).setTank i y = s.setTank i y := by
  simp [State.setTank]
@[simp] theorem State.setTank_tank_eq (i : TankIx) : s.setTank i (s.tank i) = s := by
  simp [State.setTank, State.tank]

/-! ### setNode -/

@[simp] theorem State.setNode_pending (i : NodeIx) (x : NodeHealth) : (s.setNode i x).pending = s.pending := rfl
@[simp] theorem State.setNode_port (i : NodeIx) (x : NodeHealth) : (s.setNode i x).port = s.port := rfl
@[simp] theorem State.setNode_reports (i : NodeIx) (x : NodeHealth) : (s.setNode i x).reports = s.reports := rfl
@[simp] theorem State.setNode_points (i : NodeIx) (x : NodeHealth) : (s.setNode i x).points = s.points := rfl
@[simp] theorem State.setNode_curves (i : NodeIx) (x : NodeHealth) : (s.setNode i x).curves = s.curves := rfl
@[simp] theorem State.setNode_actuators (i : NodeIx) (x : NodeHealth) : (s.setNode i x).actuators = s.actuators := rfl
@[simp] theorem State.setNode_interlocks (i : NodeIx) (x : NodeHealth) : (s.setNode i x).interlocks = s.interlocks := rfl
@[simp] theorem State.setNode_pins (i : NodeIx) (x : NodeHealth) : (s.setNode i x).pins = s.pins := rfl
@[simp] theorem State.setNode_counters (i : NodeIx) (x : NodeHealth) : (s.setNode i x).counters = s.counters := rfl
@[simp] theorem State.setNode_streams (i : NodeIx) (x : NodeHealth) : (s.setNode i x).streams = s.streams := rfl
@[simp] theorem State.setNode_accounts (i : NodeIx) (x : NodeHealth) : (s.setNode i x).accounts = s.accounts := rfl
@[simp] theorem State.setNode_cells (i : NodeIx) (x : NodeHealth) : (s.setNode i x).cells = s.cells := rfl
@[simp] theorem State.setNode_chains (i : NodeIx) (x : NodeHealth) : (s.setNode i x).chains = s.chains := rfl
@[simp] theorem State.setNode_tanks (i : NodeIx) (x : NodeHealth) : (s.setNode i x).tanks = s.tanks := rfl
@[simp] theorem State.setNode_disch (i : NodeIx) (x : NodeHealth) : (s.setNode i x).disch = s.disch := rfl
@[simp] theorem State.setNode_timers (i : NodeIx) (x : NodeHealth) : (s.setNode i x).timers = s.timers := rfl
@[simp] theorem State.setNode_point (i : NodeIx) (x : NodeHealth) (j : PointIx) : (s.setNode i x).point j = s.point j := rfl
@[simp] theorem State.setNode_curve (i : NodeIx) (x : NodeHealth) (j : CurveIx) : (s.setNode i x).curve j = s.curve j := rfl
@[simp] theorem State.setNode_actuator (i : NodeIx) (x : NodeHealth) (j : ActIx) : (s.setNode i x).actuator j = s.actuator j := rfl
@[simp] theorem State.setNode_interlock (i : NodeIx) (x : NodeHealth) (j : InterlockIx) : (s.setNode i x).interlock j = s.interlock j := rfl
@[simp] theorem State.setNode_pin (i : NodeIx) (x : NodeHealth) (j : PinIx) : (s.setNode i x).pin j = s.pin j := rfl
@[simp] theorem State.setNode_counter (i : NodeIx) (x : NodeHealth) (j : CounterIx) : (s.setNode i x).counter j = s.counter j := rfl
@[simp] theorem State.setNode_stream (i : NodeIx) (x : NodeHealth) (j : StreamIx) : (s.setNode i x).stream j = s.stream j := rfl
@[simp] theorem State.setNode_cell (i : NodeIx) (x : NodeHealth) (j : CellIx) : (s.setNode i x).cell j = s.cell j := rfl
@[simp] theorem State.setNode_chain (i : NodeIx) (x : NodeHealth) (j : ChainIx) : (s.setNode i x).chain j = s.chain j := rfl
@[simp] theorem State.setNode_tank (i : NodeIx) (x : NodeHealth) (j : TankIx) : (s.setNode i x).tank j = s.tank j := rfl
@[simp] theorem State.setNode_scanEntry (i : NodeIx) (x : NodeHealth) (j : ScanIx) : (s.setNode i x).scanEntry j = s.scanEntry j := rfl
@[simp] theorem State.setNode_node_self (i : NodeIx) (x : NodeHealth) : (s.setNode i x).node i = x := by
  simp [State.setNode, State.node]
theorem State.setNode_node_ne (i j : NodeIx) (x : NodeHealth) (h : j ≠ i) : (s.setNode i x).node j = s.node j := by
  have h2 : i.val ≠ j.val := fun e => h (Fin.ext e.symm)
  simp [State.setNode, State.node, h2]
theorem State.setNode_node (i j : NodeIx) (x : NodeHealth) : (s.setNode i x).node j = if j = i then x else s.node j := by
  by_cases h : j = i
  · simp [h]
  · simp [h, State.setNode_node_ne]
@[simp] theorem State.setNode_setNode (i : NodeIx) (x y : NodeHealth) : (s.setNode i x).setNode i y = s.setNode i y := by
  simp [State.setNode]
@[simp] theorem State.setNode_node_eq (i : NodeIx) : s.setNode i (s.node i) = s := by
  simp [State.setNode, State.node]

/-! ### setScanEntry -/

@[simp] theorem State.setScanEntry_pending (i : ScanIx) (x : ScanEntry) : (s.setScanEntry i x).pending = s.pending := rfl
@[simp] theorem State.setScanEntry_port (i : ScanIx) (x : ScanEntry) : (s.setScanEntry i x).port = s.port := rfl
@[simp] theorem State.setScanEntry_reports (i : ScanIx) (x : ScanEntry) : (s.setScanEntry i x).reports = s.reports := rfl
@[simp] theorem State.setScanEntry_points (i : ScanIx) (x : ScanEntry) : (s.setScanEntry i x).points = s.points := rfl
@[simp] theorem State.setScanEntry_curves (i : ScanIx) (x : ScanEntry) : (s.setScanEntry i x).curves = s.curves := rfl
@[simp] theorem State.setScanEntry_actuators (i : ScanIx) (x : ScanEntry) : (s.setScanEntry i x).actuators = s.actuators := rfl
@[simp] theorem State.setScanEntry_interlocks (i : ScanIx) (x : ScanEntry) : (s.setScanEntry i x).interlocks = s.interlocks := rfl
@[simp] theorem State.setScanEntry_pins (i : ScanIx) (x : ScanEntry) : (s.setScanEntry i x).pins = s.pins := rfl
@[simp] theorem State.setScanEntry_counters (i : ScanIx) (x : ScanEntry) : (s.setScanEntry i x).counters = s.counters := rfl
@[simp] theorem State.setScanEntry_streams (i : ScanIx) (x : ScanEntry) : (s.setScanEntry i x).streams = s.streams := rfl
@[simp] theorem State.setScanEntry_accounts (i : ScanIx) (x : ScanEntry) : (s.setScanEntry i x).accounts = s.accounts := rfl
@[simp] theorem State.setScanEntry_cells (i : ScanIx) (x : ScanEntry) : (s.setScanEntry i x).cells = s.cells := rfl
@[simp] theorem State.setScanEntry_chains (i : ScanIx) (x : ScanEntry) : (s.setScanEntry i x).chains = s.chains := rfl
@[simp] theorem State.setScanEntry_tanks (i : ScanIx) (x : ScanEntry) : (s.setScanEntry i x).tanks = s.tanks := rfl
@[simp] theorem State.setScanEntry_disch (i : ScanIx) (x : ScanEntry) : (s.setScanEntry i x).disch = s.disch := rfl
@[simp] theorem State.setScanEntry_timers (i : ScanIx) (x : ScanEntry) : (s.setScanEntry i x).timers = s.timers := rfl
@[simp] theorem State.setScanEntry_point (i : ScanIx) (x : ScanEntry) (j : PointIx) : (s.setScanEntry i x).point j = s.point j := rfl
@[simp] theorem State.setScanEntry_curve (i : ScanIx) (x : ScanEntry) (j : CurveIx) : (s.setScanEntry i x).curve j = s.curve j := rfl
@[simp] theorem State.setScanEntry_actuator (i : ScanIx) (x : ScanEntry) (j : ActIx) : (s.setScanEntry i x).actuator j = s.actuator j := rfl
@[simp] theorem State.setScanEntry_interlock (i : ScanIx) (x : ScanEntry) (j : InterlockIx) : (s.setScanEntry i x).interlock j = s.interlock j := rfl
@[simp] theorem State.setScanEntry_pin (i : ScanIx) (x : ScanEntry) (j : PinIx) : (s.setScanEntry i x).pin j = s.pin j := rfl
@[simp] theorem State.setScanEntry_counter (i : ScanIx) (x : ScanEntry) (j : CounterIx) : (s.setScanEntry i x).counter j = s.counter j := rfl
@[simp] theorem State.setScanEntry_stream (i : ScanIx) (x : ScanEntry) (j : StreamIx) : (s.setScanEntry i x).stream j = s.stream j := rfl
@[simp] theorem State.setScanEntry_cell (i : ScanIx) (x : ScanEntry) (j : CellIx) : (s.setScanEntry i x).cell j = s.cell j := rfl
@[simp] theorem State.setScanEntry_chain (i : ScanIx) (x : ScanEntry) (j : ChainIx) : (s.setScanEntry i x).chain j = s.chain j := rfl
@[simp] theorem State.setScanEntry_tank (i : ScanIx) (x : ScanEntry) (j : TankIx) : (s.setScanEntry i x).tank j = s.tank j := rfl
@[simp] theorem State.setScanEntry_node (i : ScanIx) (x : ScanEntry) (j : NodeIx) : (s.setScanEntry i x).node j = s.node j := rfl
@[simp] theorem State.setScanEntry_scanEntry_self (i : ScanIx) (x : ScanEntry) : (s.setScanEntry i x).scanEntry i = x := by
  simp [State.setScanEntry, State.scanEntry]
theorem State.setScanEntry_scanEntry_ne (i j : ScanIx) (x : ScanEntry) (h : j ≠ i) : (s.setScanEntry i x).scanEntry j = s.scanEntry j := by
  have h2 : i.val ≠ j.val := fun e => h (Fin.ext e.symm)
  simp [State.setScanEntry, State.scanEntry, h2]
theorem State.setScanEntry_scanEntry (i j : ScanIx) (x : ScanEntry) : (s.setScanEntry i x).scanEntry j = if j = i then x else s.scanEntry j := by
  by_cases h : j = i
  · simp [h]
  · simp [h, State.setScanEntry_scanEntry_ne]
@[simp] theorem State.setScanEntry_setScanEntry (i : ScanIx) (x y : ScanEntry) : (s.setScanEntry i x).setScanEntry i y = s.setScanEntry i y := by
  simp [State.setScanEntry]
@[simp] theorem State.setScanEntry_scanEntry_eq (i : ScanIx) : s.setScanEntry i (s.scanEntry i) = s := by
  simp [State.setScanEntry, State.scanEntry]

/-! ### setPort -/

@[simp] theorem State.setPort_pending (x : PlantPort) : (s.setPort x).pending = s.pending := rfl
@[simp] theorem State.setPort_port (x : PlantPort) : (s.setPort x).port = x := rfl
@[simp] theorem State.setPort_reports (x : PlantPort) : (s.setPort x).reports = s.reports := rfl
@[simp] theorem State.setPort_line (x : PlantPort) : (s.setPort x).line = s.line := rfl
@[simp] theorem State.setPort_points (x : PlantPort) : (s.setPort x).points = s.points := rfl
@[simp] theorem State.setPort_curves (x : PlantPort) : (s.setPort x).curves = s.curves := rfl
@[simp] theorem State.setPort_actuators (x : PlantPort) : (s.setPort x).actuators = s.actuators := rfl
@[simp] theorem State.setPort_interlocks (x : PlantPort) : (s.setPort x).interlocks = s.interlocks := rfl
@[simp] theorem State.setPort_pins (x : PlantPort) : (s.setPort x).pins = s.pins := rfl
@[simp] theorem State.setPort_counters (x : PlantPort) : (s.setPort x).counters = s.counters := rfl
@[simp] theorem State.setPort_streams (x : PlantPort) : (s.setPort x).streams = s.streams := rfl
@[simp] theorem State.setPort_accounts (x : PlantPort) : (s.setPort x).accounts = s.accounts := rfl
@[simp] theorem State.setPort_cells (x : PlantPort) : (s.setPort x).cells = s.cells := rfl
@[simp] theorem State.setPort_chains (x : PlantPort) : (s.setPort x).chains = s.chains := rfl
@[simp] theorem State.setPort_tanks (x : PlantPort) : (s.setPort x).tanks = s.tanks := rfl
@[simp] theorem State.setPort_disch (x : PlantPort) : (s.setPort x).disch = s.disch := rfl
@[simp] theorem State.setPort_timers (x : PlantPort) : (s.setPort x).timers = s.timers := rfl
@[simp] theorem State.setPort_point (x : PlantPort) (j : PointIx) : (s.setPort x).point j = s.point j := rfl
@[simp] theorem State.setPort_curve (x : PlantPort) (j : CurveIx) : (s.setPort x).curve j = s.curve j := rfl
@[simp] theorem State.setPort_actuator (x : PlantPort) (j : ActIx) : (s.setPort x).actuator j = s.actuator j := rfl
@[simp] theorem State.setPort_interlock (x : PlantPort) (j : InterlockIx) : (s.setPort x).interlock j = s.interlock j := rfl
@[simp] theorem State.setPort_pin (x : PlantPort) (j : PinIx) : (s.setPort x).pin j = s.pin j := rfl
@[simp] theorem State.setPort_counter (x : PlantPort) (j : CounterIx) : (s.setPort x).counter j = s.counter j := rfl
@[simp] theorem State.setPort_stream (x : PlantPort) (j : StreamIx) : (s.setPort x).stream j = s.stream j := rfl
@[simp] theorem State.setPort_cell (x : PlantPort) (j : CellIx) : (s.setPort x).cell j = s.cell j := rfl
@[simp] theorem State.setPort_chain (x : PlantPort) (j : ChainIx) : (s.setPort x).chain j = s.chain j := rfl
@[simp] theorem State.setPort_tank (x : PlantPort) (j : TankIx) : (s.setPort x).tank j = s.tank j := rfl
@[simp] theorem State.setPort_node (x : PlantPort) (j : NodeIx) : (s.setPort x).node j = s.node j := rfl
@[simp] theorem State.setPort_scanEntry (x : PlantPort) (j : ScanIx) : (s.setPort x).scanEntry j = s.scanEntry j := rfl

/-! ### setReports -/

@[simp] theorem State.setReports_pending (x : ReportQueue) : (s.setReports x).pending = s.pending := rfl
@[simp] theorem State.setReports_port (x : ReportQueue) : (s.setReports x).port = s.port := rfl
@[simp] theorem State.setReports_reports (x : ReportQueue) : (s.setReports x).reports = x := rfl
@[simp] theorem State.setReports_line (x : ReportQueue) : (s.setReports x).line = s.line := rfl
@[simp] theorem State.setReports_points (x : ReportQueue) : (s.setReports x).points = s.points := rfl
@[simp] theorem State.setReports_curves (x : ReportQueue) : (s.setReports x).curves = s.curves := rfl
@[simp] theorem State.setReports_actuators (x : ReportQueue) : (s.setReports x).actuators = s.actuators := rfl
@[simp] theorem State.setReports_interlocks (x : ReportQueue) : (s.setReports x).interlocks = s.interlocks := rfl
@[simp] theorem State.setReports_pins (x : ReportQueue) : (s.setReports x).pins = s.pins := rfl
@[simp] theorem State.setReports_counters (x : ReportQueue) : (s.setReports x).counters = s.counters := rfl
@[simp] theorem State.setReports_streams (x : ReportQueue) : (s.setReports x).streams = s.streams := rfl
@[simp] theorem State.setReports_accounts (x : ReportQueue) : (s.setReports x).accounts = s.accounts := rfl
@[simp] theorem State.setReports_cells (x : ReportQueue) : (s.setReports x).cells = s.cells := rfl
@[simp] theorem State.setReports_chains (x : ReportQueue) : (s.setReports x).chains = s.chains := rfl
@[simp] theorem State.setReports_tanks (x : ReportQueue) : (s.setReports x).tanks = s.tanks := rfl
@[simp] theorem State.setReports_disch (x : ReportQueue) : (s.setReports x).disch = s.disch := rfl
@[simp] theorem State.setReports_timers (x : ReportQueue) : (s.setReports x).timers = s.timers := rfl
@[simp] theorem State.setReports_point (x : ReportQueue) (j : PointIx) : (s.setReports x).point j = s.point j := rfl
@[simp] theorem State.setReports_curve (x : ReportQueue) (j : CurveIx) : (s.setReports x).curve j = s.curve j := rfl
@[simp] theorem State.setReports_actuator (x : ReportQueue) (j : ActIx) : (s.setReports x).actuator j = s.actuator j := rfl
@[simp] theorem State.setReports_interlock (x : ReportQueue) (j : InterlockIx) : (s.setReports x).interlock j = s.interlock j := rfl
@[simp] theorem State.setReports_pin (x : ReportQueue) (j : PinIx) : (s.setReports x).pin j = s.pin j := rfl
@[simp] theorem State.setReports_counter (x : ReportQueue) (j : CounterIx) : (s.setReports x).counter j = s.counter j := rfl
@[simp] theorem State.setReports_stream (x : ReportQueue) (j : StreamIx) : (s.setReports x).stream j = s.stream j := rfl
@[simp] theorem State.setReports_cell (x : ReportQueue) (j : CellIx) : (s.setReports x).cell j = s.cell j := rfl
@[simp] theorem State.setReports_chain (x : ReportQueue) (j : ChainIx) : (s.setReports x).chain j = s.chain j := rfl
@[simp] theorem State.setReports_tank (x : ReportQueue) (j : TankIx) : (s.setReports x).tank j = s.tank j := rfl
@[simp] theorem State.setReports_node (x : ReportQueue) (j : NodeIx) : (s.setReports x).node j = s.node j := rfl
@[simp] theorem State.setReports_scanEntry (x : ReportQueue) (j : ScanIx) : (s.setReports x).scanEntry j = s.scanEntry j := rfl

/-! ### setLine -/

@[simp] theorem State.setLine_pending (x : FieldLine) : (s.setLine x).pending = s.pending := rfl
@[simp] theorem State.setLine_port (x : FieldLine) : (s.setLine x).port = s.port := rfl
@[simp] theorem State.setLine_reports (x : FieldLine) : (s.setLine x).reports = s.reports := rfl
@[simp] theorem State.setLine_line (x : FieldLine) : (s.setLine x).line = x := rfl
@[simp] theorem State.setLine_points (x : FieldLine) : (s.setLine x).points = s.points := rfl
@[simp] theorem State.setLine_curves (x : FieldLine) : (s.setLine x).curves = s.curves := rfl
@[simp] theorem State.setLine_actuators (x : FieldLine) : (s.setLine x).actuators = s.actuators := rfl
@[simp] theorem State.setLine_interlocks (x : FieldLine) : (s.setLine x).interlocks = s.interlocks := rfl
@[simp] theorem State.setLine_pins (x : FieldLine) : (s.setLine x).pins = s.pins := rfl
@[simp] theorem State.setLine_counters (x : FieldLine) : (s.setLine x).counters = s.counters := rfl
@[simp] theorem State.setLine_streams (x : FieldLine) : (s.setLine x).streams = s.streams := rfl
@[simp] theorem State.setLine_accounts (x : FieldLine) : (s.setLine x).accounts = s.accounts := rfl
@[simp] theorem State.setLine_cells (x : FieldLine) : (s.setLine x).cells = s.cells := rfl
@[simp] theorem State.setLine_chains (x : FieldLine) : (s.setLine x).chains = s.chains := rfl
@[simp] theorem State.setLine_tanks (x : FieldLine) : (s.setLine x).tanks = s.tanks := rfl
@[simp] theorem State.setLine_disch (x : FieldLine) : (s.setLine x).disch = s.disch := rfl
@[simp] theorem State.setLine_timers (x : FieldLine) : (s.setLine x).timers = s.timers := rfl
@[simp] theorem State.setLine_point (x : FieldLine) (j : PointIx) : (s.setLine x).point j = s.point j := rfl
@[simp] theorem State.setLine_curve (x : FieldLine) (j : CurveIx) : (s.setLine x).curve j = s.curve j := rfl
@[simp] theorem State.setLine_actuator (x : FieldLine) (j : ActIx) : (s.setLine x).actuator j = s.actuator j := rfl
@[simp] theorem State.setLine_interlock (x : FieldLine) (j : InterlockIx) : (s.setLine x).interlock j = s.interlock j := rfl
@[simp] theorem State.setLine_pin (x : FieldLine) (j : PinIx) : (s.setLine x).pin j = s.pin j := rfl
@[simp] theorem State.setLine_counter (x : FieldLine) (j : CounterIx) : (s.setLine x).counter j = s.counter j := rfl
@[simp] theorem State.setLine_stream (x : FieldLine) (j : StreamIx) : (s.setLine x).stream j = s.stream j := rfl
@[simp] theorem State.setLine_cell (x : FieldLine) (j : CellIx) : (s.setLine x).cell j = s.cell j := rfl
@[simp] theorem State.setLine_chain (x : FieldLine) (j : ChainIx) : (s.setLine x).chain j = s.chain j := rfl
@[simp] theorem State.setLine_tank (x : FieldLine) (j : TankIx) : (s.setLine x).tank j = s.tank j := rfl

/-! ### setAccounts -/

@[simp] theorem State.setAccounts_pending (x : Accounts) : (s.setAccounts x).pending = s.pending := rfl
@[simp] theorem State.setAccounts_port (x : Accounts) : (s.setAccounts x).port = s.port := rfl
@[simp] theorem State.setAccounts_reports (x : Accounts) : (s.setAccounts x).reports = s.reports := rfl
@[simp] theorem State.setAccounts_line (x : Accounts) : (s.setAccounts x).line = s.line := rfl
@[simp] theorem State.setAccounts_points (x : Accounts) : (s.setAccounts x).points = s.points := rfl
@[simp] theorem State.setAccounts_curves (x : Accounts) : (s.setAccounts x).curves = s.curves := rfl
@[simp] theorem State.setAccounts_actuators (x : Accounts) : (s.setAccounts x).actuators = s.actuators := rfl
@[simp] theorem State.setAccounts_interlocks (x : Accounts) : (s.setAccounts x).interlocks = s.interlocks := rfl
@[simp] theorem State.setAccounts_pins (x : Accounts) : (s.setAccounts x).pins = s.pins := rfl
@[simp] theorem State.setAccounts_counters (x : Accounts) : (s.setAccounts x).counters = s.counters := rfl
@[simp] theorem State.setAccounts_streams (x : Accounts) : (s.setAccounts x).streams = s.streams := rfl
@[simp] theorem State.setAccounts_accounts (x : Accounts) : (s.setAccounts x).accounts = x := rfl
@[simp] theorem State.setAccounts_cells (x : Accounts) : (s.setAccounts x).cells = s.cells := rfl
@[simp] theorem State.setAccounts_chains (x : Accounts) : (s.setAccounts x).chains = s.chains := rfl
@[simp] theorem State.setAccounts_tanks (x : Accounts) : (s.setAccounts x).tanks = s.tanks := rfl
@[simp] theorem State.setAccounts_disch (x : Accounts) : (s.setAccounts x).disch = s.disch := rfl
@[simp] theorem State.setAccounts_timers (x : Accounts) : (s.setAccounts x).timers = s.timers := rfl
@[simp] theorem State.setAccounts_point (x : Accounts) (j : PointIx) : (s.setAccounts x).point j = s.point j := rfl
@[simp] theorem State.setAccounts_curve (x : Accounts) (j : CurveIx) : (s.setAccounts x).curve j = s.curve j := rfl
@[simp] theorem State.setAccounts_actuator (x : Accounts) (j : ActIx) : (s.setAccounts x).actuator j = s.actuator j := rfl
@[simp] theorem State.setAccounts_interlock (x : Accounts) (j : InterlockIx) : (s.setAccounts x).interlock j = s.interlock j := rfl
@[simp] theorem State.setAccounts_pin (x : Accounts) (j : PinIx) : (s.setAccounts x).pin j = s.pin j := rfl
@[simp] theorem State.setAccounts_counter (x : Accounts) (j : CounterIx) : (s.setAccounts x).counter j = s.counter j := rfl
@[simp] theorem State.setAccounts_stream (x : Accounts) (j : StreamIx) : (s.setAccounts x).stream j = s.stream j := rfl
@[simp] theorem State.setAccounts_cell (x : Accounts) (j : CellIx) : (s.setAccounts x).cell j = s.cell j := rfl
@[simp] theorem State.setAccounts_chain (x : Accounts) (j : ChainIx) : (s.setAccounts x).chain j = s.chain j := rfl
@[simp] theorem State.setAccounts_tank (x : Accounts) (j : TankIx) : (s.setAccounts x).tank j = s.tank j := rfl
@[simp] theorem State.setAccounts_node (x : Accounts) (j : NodeIx) : (s.setAccounts x).node j = s.node j := rfl
@[simp] theorem State.setAccounts_scanEntry (x : Accounts) (j : ScanIx) : (s.setAccounts x).scanEntry j = s.scanEntry j := rfl

/-! ### setDisch -/

@[simp] theorem State.setDisch_pending (x : Discharge) : (s.setDisch x).pending = s.pending := rfl
@[simp] theorem State.setDisch_port (x : Discharge) : (s.setDisch x).port = s.port := rfl
@[simp] theorem State.setDisch_reports (x : Discharge) : (s.setDisch x).reports = s.reports := rfl
@[simp] theorem State.setDisch_line (x : Discharge) : (s.setDisch x).line = s.line := rfl
@[simp] theorem State.setDisch_points (x : Discharge) : (s.setDisch x).points = s.points := rfl
@[simp] theorem State.setDisch_curves (x : Discharge) : (s.setDisch x).curves = s.curves := rfl
@[simp] theorem State.setDisch_actuators (x : Discharge) : (s.setDisch x).actuators = s.actuators := rfl
@[simp] theorem State.setDisch_interlocks (x : Discharge) : (s.setDisch x).interlocks = s.interlocks := rfl
@[simp] theorem State.setDisch_pins (x : Discharge) : (s.setDisch x).pins = s.pins := rfl
@[simp] theorem State.setDisch_counters (x : Discharge) : (s.setDisch x).counters = s.counters := rfl
@[simp] theorem State.setDisch_streams (x : Discharge) : (s.setDisch x).streams = s.streams := rfl
@[simp] theorem State.setDisch_accounts (x : Discharge) : (s.setDisch x).accounts = s.accounts := rfl
@[simp] theorem State.setDisch_cells (x : Discharge) : (s.setDisch x).cells = s.cells := rfl
@[simp] theorem State.setDisch_chains (x : Discharge) : (s.setDisch x).chains = s.chains := rfl
@[simp] theorem State.setDisch_tanks (x : Discharge) : (s.setDisch x).tanks = s.tanks := rfl
@[simp] theorem State.setDisch_disch (x : Discharge) : (s.setDisch x).disch = x := rfl
@[simp] theorem State.setDisch_timers (x : Discharge) : (s.setDisch x).timers = s.timers := rfl
@[simp] theorem State.setDisch_point (x : Discharge) (j : PointIx) : (s.setDisch x).point j = s.point j := rfl
@[simp] theorem State.setDisch_curve (x : Discharge) (j : CurveIx) : (s.setDisch x).curve j = s.curve j := rfl
@[simp] theorem State.setDisch_actuator (x : Discharge) (j : ActIx) : (s.setDisch x).actuator j = s.actuator j := rfl
@[simp] theorem State.setDisch_interlock (x : Discharge) (j : InterlockIx) : (s.setDisch x).interlock j = s.interlock j := rfl
@[simp] theorem State.setDisch_pin (x : Discharge) (j : PinIx) : (s.setDisch x).pin j = s.pin j := rfl
@[simp] theorem State.setDisch_counter (x : Discharge) (j : CounterIx) : (s.setDisch x).counter j = s.counter j := rfl
@[simp] theorem State.setDisch_stream (x : Discharge) (j : StreamIx) : (s.setDisch x).stream j = s.stream j := rfl
@[simp] theorem State.setDisch_cell (x : Discharge) (j : CellIx) : (s.setDisch x).cell j = s.cell j := rfl
@[simp] theorem State.setDisch_chain (x : Discharge) (j : ChainIx) : (s.setDisch x).chain j = s.chain j := rfl
@[simp] theorem State.setDisch_tank (x : Discharge) (j : TankIx) : (s.setDisch x).tank j = s.tank j := rfl
@[simp] theorem State.setDisch_node (x : Discharge) (j : NodeIx) : (s.setDisch x).node j = s.node j := rfl
@[simp] theorem State.setDisch_scanEntry (x : Discharge) (j : ScanIx) : (s.setDisch x).scanEntry j = s.scanEntry j := rfl

/-! ### setTimers -/

@[simp] theorem State.setTimers_pending (x : Timers) : (s.setTimers x).pending = s.pending := rfl
@[simp] theorem State.setTimers_port (x : Timers) : (s.setTimers x).port = s.port := rfl
@[simp] theorem State.setTimers_reports (x : Timers) : (s.setTimers x).reports = s.reports := rfl
@[simp] theorem State.setTimers_line (x : Timers) : (s.setTimers x).line = s.line := rfl
@[simp] theorem State.setTimers_points (x : Timers) : (s.setTimers x).points = s.points := rfl
@[simp] theorem State.setTimers_curves (x : Timers) : (s.setTimers x).curves = s.curves := rfl
@[simp] theorem State.setTimers_actuators (x : Timers) : (s.setTimers x).actuators = s.actuators := rfl
@[simp] theorem State.setTimers_interlocks (x : Timers) : (s.setTimers x).interlocks = s.interlocks := rfl
@[simp] theorem State.setTimers_pins (x : Timers) : (s.setTimers x).pins = s.pins := rfl
@[simp] theorem State.setTimers_counters (x : Timers) : (s.setTimers x).counters = s.counters := rfl
@[simp] theorem State.setTimers_streams (x : Timers) : (s.setTimers x).streams = s.streams := rfl
@[simp] theorem State.setTimers_accounts (x : Timers) : (s.setTimers x).accounts = s.accounts := rfl
@[simp] theorem State.setTimers_cells (x : Timers) : (s.setTimers x).cells = s.cells := rfl
@[simp] theorem State.setTimers_chains (x : Timers) : (s.setTimers x).chains = s.chains := rfl
@[simp] theorem State.setTimers_tanks (x : Timers) : (s.setTimers x).tanks = s.tanks := rfl
@[simp] theorem State.setTimers_disch (x : Timers) : (s.setTimers x).disch = s.disch := rfl
@[simp] theorem State.setTimers_timers (x : Timers) : (s.setTimers x).timers = x := rfl
@[simp] theorem State.setTimers_point (x : Timers) (j : PointIx) : (s.setTimers x).point j = s.point j := rfl
@[simp] theorem State.setTimers_curve (x : Timers) (j : CurveIx) : (s.setTimers x).curve j = s.curve j := rfl
@[simp] theorem State.setTimers_actuator (x : Timers) (j : ActIx) : (s.setTimers x).actuator j = s.actuator j := rfl
@[simp] theorem State.setTimers_interlock (x : Timers) (j : InterlockIx) : (s.setTimers x).interlock j = s.interlock j := rfl
@[simp] theorem State.setTimers_pin (x : Timers) (j : PinIx) : (s.setTimers x).pin j = s.pin j := rfl
@[simp] theorem State.setTimers_counter (x : Timers) (j : CounterIx) : (s.setTimers x).counter j = s.counter j := rfl
@[simp] theorem State.setTimers_stream (x : Timers) (j : StreamIx) : (s.setTimers x).stream j = s.stream j := rfl
@[simp] theorem State.setTimers_cell (x : Timers) (j : CellIx) : (s.setTimers x).cell j = s.cell j := rfl
@[simp] theorem State.setTimers_chain (x : Timers) (j : ChainIx) : (s.setTimers x).chain j = s.chain j := rfl
@[simp] theorem State.setTimers_tank (x : Timers) (j : TankIx) : (s.setTimers x).tank j = s.tank j := rfl
@[simp] theorem State.setTimers_node (x : Timers) (j : NodeIx) : (s.setTimers x).node j = s.node j := rfl
@[simp] theorem State.setTimers_scanEntry (x : Timers) (j : ScanIx) : (s.setTimers x).scanEntry j = s.scanEntry j := rfl

/-! ### setPending -/

@[simp] theorem State.setPending_pending (x : List Instr) : (s.setPending x).pending = x := rfl
@[simp] theorem State.setPending_port (x : List Instr) : (s.setPending x).port = s.port := rfl
@[simp] theorem State.setPending_reports (x : List Instr) : (s.setPending x).reports = s.reports := rfl
@[simp] theorem State.setPending_line (x : List Instr) : (s.setPending x).line = s.line := rfl
@[simp] theorem State.setPending_points (x : List Instr) : (s.setPending x).points = s.points := rfl
@[simp] theorem State.setPending_curves (x : List Instr) : (s.setPending x).curves = s.curves := rfl
@[simp] theorem State.setPending_actuators (x : List Instr) : (s.setPending x).actuators = s.actuators := rfl
@[simp] theorem State.setPending_interlocks (x : List Instr) : (s.setPending x).interlocks = s.interlocks := rfl
@[simp] theorem State.setPending_pins (x : List Instr) : (s.setPending x).pins = s.pins := rfl
@[simp] theorem State.setPending_counters (x : List Instr) : (s.setPending x).counters = s.counters := rfl
@[simp] theorem State.setPending_streams (x : List Instr) : (s.setPending x).streams = s.streams := rfl
@[simp] theorem State.setPending_accounts (x : List Instr) : (s.setPending x).accounts = s.accounts := rfl
@[simp] theorem State.setPending_cells (x : List Instr) : (s.setPending x).cells = s.cells := rfl
@[simp] theorem State.setPending_chains (x : List Instr) : (s.setPending x).chains = s.chains := rfl
@[simp] theorem State.setPending_tanks (x : List Instr) : (s.setPending x).tanks = s.tanks := rfl
@[simp] theorem State.setPending_disch (x : List Instr) : (s.setPending x).disch = s.disch := rfl
@[simp] theorem State.setPending_timers (x : List Instr) : (s.setPending x).timers = s.timers := rfl
@[simp] theorem State.setPending_point (x : List Instr) (j : PointIx) : (s.setPending x).point j = s.point j := rfl
@[simp] theorem State.setPending_curve (x : List Instr) (j : CurveIx) : (s.setPending x).curve j = s.curve j := rfl
@[simp] theorem State.setPending_actuator (x : List Instr) (j : ActIx) : (s.setPending x).actuator j = s.actuator j := rfl
@[simp] theorem State.setPending_interlock (x : List Instr) (j : InterlockIx) : (s.setPending x).interlock j = s.interlock j := rfl
@[simp] theorem State.setPending_pin (x : List Instr) (j : PinIx) : (s.setPending x).pin j = s.pin j := rfl
@[simp] theorem State.setPending_counter (x : List Instr) (j : CounterIx) : (s.setPending x).counter j = s.counter j := rfl
@[simp] theorem State.setPending_stream (x : List Instr) (j : StreamIx) : (s.setPending x).stream j = s.stream j := rfl
@[simp] theorem State.setPending_cell (x : List Instr) (j : CellIx) : (s.setPending x).cell j = s.cell j := rfl
@[simp] theorem State.setPending_chain (x : List Instr) (j : ChainIx) : (s.setPending x).chain j = s.chain j := rfl
@[simp] theorem State.setPending_tank (x : List Instr) (j : TankIx) : (s.setPending x).tank j = s.tank j := rfl
@[simp] theorem State.setPending_node (x : List Instr) (j : NodeIx) : (s.setPending x).node j = s.node j := rfl
@[simp] theorem State.setPending_scanEntry (x : List Instr) (j : ScanIx) : (s.setPending x).scanEntry j = s.scanEntry j := rfl

end Sys2Proof.Machine
end

