-- ==== Sys2Proof/Laws/Requests.lean ====
section
/-! SUPPORT. What executing the request at the head of the queue comes to: one lemma for a LOAD, a READ and a COMMAND each, which say the
answer from what the block says. -/

namespace Sys2Proof.Machine

/-- The state in which a block executes: the request has left the queue. -/
def withRequests (s : State) (rest : List Request) : State := { s with port := { s.port with requests := rest } }

variable {s t' : State} {r : Request} {rest : List Request} {tag : Byte} {c : Instr} {code : Code}

theorem live_of_not_inReset (h : s.inReset = false) (f : State → State) : s.live f = .next (f s) := by
  simp [State.live, h]

theorem live_of_inReset (h : s.inReset = true) (f : State → State) : s.live f = .next s := by
  simp [State.live, h]

theorem takeRequest_executing (h : Executing s r rest) {sel : Request → Bool} (hs : sel r = true)
    (f : Request → State → State) : takeRequest sel f s = f r (withRequests s rest) := by
  obtain ⟨-, hh, he, hq⟩ := h
  simp [takeRequest, hq, ready, hh, he, hs, popRequest, withRequests, State.setPort]

theorem takeRequest_idle {sel : Request → Bool} {f : Request → State → State}
    (h : s.port.holding = true ∨ s.port.ended = true ∨ s.port.requests = []) : takeRequest sel f s = s := by
  unfold takeRequest
  split
  · rfl
  · next hq => rcases h with h | h | h <;> simp_all [ready]

theorem answer_eq (tag : Byte) (code : Code) (s : State) :
    answer tag code s =
      { s with port :=
        { s.port with results := s.port.results ++ [resultOf tag code []], holding := true } } := rfl

theorem beVal_one (b : Byte) : beVal [b] = b.toNat := by simp [beVal]

theorem fieldAt_head (b : Byte) (bs : List Byte) : fieldAt (b :: bs) 0 1 = b.toNat := by simp [fieldAt, beVal_one]

theorem fieldAt_second (a b : Byte) (bs : List Byte) : fieldAt (a :: b :: bs) 1 1 = b.toNat := by
  simp [fieldAt, beVal_one]

theorem tableCode_lt (t : Table) : tableCode t < 256 := by cases t <;> decide

theorem isLoad_loadOf (t : Table) (i : Nat) (record : List Byte) (tag : Byte) :
    isLoad t (loadOf t i record tag) = true := by
  simp [isLoad, loadOf, namesTable, fieldAt_head, Nat.mod_eq_of_lt (tableCode_lt t)]

theorem isRead_readOf (t : Table) (i : Nat) (tag : Byte) : isRead t (readOf t i tag) = true := by
  simp [isRead, readOf, namesTable, fieldAt_head, Nat.mod_eq_of_lt (tableCode_lt t)]

theorem commandCode_lt (c : Command) : commandCode c < 256 := by cases c <;> decide

theorem isCommand_commandOf (c : Command) (args : List Byte) (tag : Byte) (h : args.length = argLength c) :
    isCommand c (commandOf c args tag) = true := by
  simp [isCommand, commandOf, spells, fieldAt_head, Nat.mod_eq_of_lt (commandCode_lt c), h]

theorem index?_val {n : Nat} (i : Fin n) : index? n i.val = some i := by simp [index?]

theorem index?_of_le {n x : Nat} (h : n ≤ x) : index? n x = none := by simp [index?, Nat.not_lt.mpr h]

/-- A LOAD that passes the Plant Port's checks is what the block makes of it. -/
theorem loadRequest_eq {n : Nat} {t : Table} {i : Fin n} {record : List Byte} (hn : n ≤ 256)
    (block : Fin n → List Byte → State → Code × State) (h : Loads t i s record tag rest) :
    loadRequest t block s =
      .next (answer tag (block i record (withRequests s rest)).1 (block i record (withRequests s rest)).2) := by
  obtain ⟨h, hl⟩ := h
  have hi : i.val % 256 = i.val := Nat.mod_eq_of_lt (Nat.lt_of_lt_of_le i.isLt hn)
  rw [loadRequest, live_of_not_inReset h.1, takeRequest_executing h (isLoad_loadOf ..)]
  simp [loadOf, loadChecked, fieldAt_second, hi, index?_val, hl]

theorem loads_refuse {n : Nat} {t : Table} {i : Fin n} {record : List Byte} (hn : n ≤ 256)
    {block : Fin n → List Byte → State → Code × State} (h : Loads t i s record tag rest)
    (hc : exec c s = loadRequest t block s)
    (hb : block i record (withRequests s rest) = (code, withRequests s rest)) : RefusedWith c s rest tag code := by
  rw [RefusedWith, hc, loadRequest_eq hn block h, hb, answer_eq]
  rfl

theorem loads_accept {n : Nat} {t : Table} {i : Fin n} {record : List Byte} (hn : n ≤ 256)
    {block : Fin n → List Byte → State → Code × State} (h : Loads t i s record tag rest)
    (hc : exec c s = loadRequest t block s)
    (hb : block i record (withRequests s rest) = (.ok, withRequests t' rest)) : AcceptedAs c s rest tag t' := by
  rw [AcceptedAs, hc, loadRequest_eq hn block h, hb, answer_eq]
  rfl

/-- A COMMAND whose arguments have their length is what its block makes of it. -/
theorem commandRequest_eq {cmd : Command} {args : List Byte} (hl : args.length = argLength cmd)
    (run : List Byte → State → Code × State) (h : Executing s (commandOf cmd args tag) rest) :
    commandRequest cmd run s =
      .next (answer tag (run (BitVec.ofNat 8 (commandCode cmd) :: args) (withRequests s rest)).1
        (run (BitVec.ofNat 8 (commandCode cmd) :: args) (withRequests s rest)).2) := by
  rw [commandRequest, live_of_not_inReset h.1, takeRequest_executing h (isCommand_commandOf _ _ _ hl)]
  rfl

theorem command_refuses {cmd : Command} {args : List Byte} (hl : args.length = argLength cmd)
    {run : List Byte → State → Code × State} (h : Executing s (commandOf cmd args tag) rest)
    (hc : exec c s = commandRequest cmd run s)
    (hb : run (BitVec.ofNat 8 (commandCode cmd) :: args) (withRequests s rest) = (code, withRequests s rest)) :
    RefusedWith c s rest tag code := by
  rw [RefusedWith, hc, commandRequest_eq hl run h, hb, answer_eq]
  rfl

theorem command_accepts {cmd : Command} {args : List Byte} (hl : args.length = argLength cmd)
    {run : List Byte → State → Code × State} (h : Executing s (commandOf cmd args tag) rest)
    (hc : exec c s = commandRequest cmd run s)
    (hb : run (BitVec.ofNat 8 (commandCode cmd) :: args) (withRequests s rest) = (.ok, withRequests t' rest)) :
    AcceptedAs c s rest tag t' := by
  rw [AcceptedAs, hc, commandRequest_eq hl run h, hb, answer_eq]
  rfl

/-- A READ of an index in its table answers the block's content. -/
theorem readRequest_eq {n : Nat} {t : Table} {i : Fin n} (hn : n ≤ 256) (content : State → Fin n → List Byte)
    (h : Executing s (readOf t i tag) rest) :
    readRequest t content s =
      .next (answerWith tag .ok (content (withRequests s rest) i) (withRequests s rest)) := by
  have hi : i.val % 256 = i.val := Nat.mod_eq_of_lt (Nat.lt_of_lt_of_le i.isLt hn)
  rw [readRequest, live_of_not_inReset h.1, takeRequest_executing h (isRead_readOf ..)]
  simp [readOf, fieldAt_second, hi, index?_val]

end Sys2Proof.Machine
end

