-- ==== Sys2Proof/Laws/Shared.lean ====
section
/-! SUPPORT. What each shared operation can touch, said once, with a simp lemma for every part of the state it leaves alone. A claim cites
these and does not unfold the operation. -/

namespace Sys2Proof.Machine

variable (s : State)

/-! ## Reports -/

@[simp] theorem raise_eq (r : Report) : raise r s = s.setReports (s.reports.raise r) := rfl

@[simp] theorem raiseAlert_eq (k : ReportKind) (o : AlertObject) (d : List Nat) :
    raiseAlert k o d s = s.setReports (s.reports.raise (.alert k o d s.clock)) := rfl

theorem causeFigure_eq (c : ResetCause) : causeFigure c = resetCauseCode c := by cases c <;> rfl

/-! ## Actuators -/

theorem enqueue_eq (a : ActIx) :
    enqueue a s =
      { s.setActuator a { s.actuator a with state := .pending, retry := none } with
        line := { s.line with controlQ := s.line.controlQ ++ [a] } } := rfl

theorem withdraw_eq (a : ActIx) :
    withdraw a s =
      { s.setActuator a { s.actuator a with state := .idle } with
        line := { s.line with controlQ := s.line.controlQ.filter (· ≠ a) } } := rfl

theorem settleIdle_eq (a : ActIx) : settleIdle a s = s.setActuator a { s.actuator a with state := .idle, retry := none } := rfl

/-- R80: what applying a PIN-bound actuator's new desired value comes to. -/
theorem applyPin_desired (a : ActIx) (p : PinIx) (v : Nat) :
    applyPin a p (s.setActuator a { s.actuator a with desired := v }) = appliedTo s a p v := by
  by_cases h : isOutput (s.pin p).fn
  · simp [applyPin, h, appliedTo, drivePin, takenByPin]
    simp [State.setActuator, State.setPin]
  · simp [applyPin, h, appliedTo, withoutPin, failUnmapped, unmappedReported, actReasonCode, Config.retryMs]
    rfl

/-- R80: applying a PIN-bound actuator's desired value as it stands. -/
theorem applyPin_eq (a : ActIx) (p : PinIx) : applyPin a p s = appliedTo s a p (s.actuator a).desired := by
  rw [← applyPin_desired]
  congr 1
  change s = s.setActuator a (s.actuator a)
  simp [State.setActuator, State.actuator]

/-- R76: clearing an actuator record changes the line alone. -/
theorem clearActuator_eq (a : ActIx) : clearActuator a s = s.setLine (clearedLine s a) := by
  simp only [clearActuator, clearedLine, dequeue]
  by_cases hp : (s.actuator a).state = .pending
  · simp only [hp, if_true, State.setLine_line]
    cases hh : s.line.hold with
    | exchange x =>
      obtain ⟨job, _⟩ := x
      cases job with
      | control b v => by_cases hij : a = b <;> simp [voidedHold, hij, State.setLine]
      | _ => simp [voidedHold, State.setLine]
    | _ => simp [voidedHold, State.setLine]
  · simp only [hp, if_false]
    cases hh : s.line.hold with
    | exchange x =>
      obtain ⟨job, _⟩ := x
      cases job with
      | control b v =>
        by_cases hij : a = b <;> simp [voidedHold, hij, State.setLine]
        rw [← hh]
      | _ =>
        simp [voidedHold, State.setLine]
        rw [← hh]
    | _ =>
      simp [voidedHold, State.setLine]
      rw [← hh]

/-- R77, R79, R80: an owner request touches its actuator, the pins, the reports and the control set queue. -/
theorem ownerRequest_touches (a : ActIx) (v : Nat) :
    ∃ x pins reports queue,
      ownerRequest a v s =
        { s with actuators := s.actuators.set a x, pins := pins, reports := reports, line := { s.line with controlQ := queue } } := by
  have id : s = { s with actuators := s.actuators.set a (s.actuator a), line := { s.line with controlQ := s.line.controlQ } } := by
    simp [State.actuator]
  unfold ownerRequest
  split
  · exact ⟨_, _, _, _, id⟩
  split
  · exact ⟨_, _, _, _, id⟩
  · simp only [requestField, enqueue, withdraw, settleIdle, dequeue, State.setActuator, State.setLine]
    repeat' split
    all_goals first
      | exact ⟨_, _, _, _, id⟩
      | exact ⟨_, s.pins, s.reports, s.line.controlQ, rfl⟩
      | exact ⟨_, s.pins, s.reports, s.line.controlQ, by rw [Vector.set_set]⟩
      | exact ⟨_, s.pins, s.reports, _, by rw [Vector.set_set]⟩
  · rw [applyPin_desired]
    unfold appliedTo
    split
    · exact ⟨_, _, s.reports, s.line.controlQ, rfl⟩
    · exact ⟨_, s.pins, _, s.line.controlQ, rfl⟩

/-- R150: the requests of a tank touch the actuators, the pins, the reports and the control set queue. -/
theorem tankRequest_touches (t : TankIx) :
    ∃ acts pins reports queue,
      tankRequest t s = { s with actuators := acts, pins := pins, reports := reports, line := { s.line with controlQ := queue } } := by
  unfold tankRequest
  split
  · exact ⟨s.actuators, s.pins, s.reports, s.line.controlQ, rfl⟩
  · next c _ =>
    obtain ⟨x1, p1, r1, q1, h1⟩ := ownerRequest_touches s c.inlet.act (valveValue c.inlet (inletOpen (s.tank t)))
    obtain ⟨x2, p2, r2, q2, h2⟩ := ownerRequest_touches (ownerRequest c.inlet.act (valveValue c.inlet (inletOpen (s.tank t))) s)
      c.drain.act (valveValue c.drain (drainOpen (s.tank t)))
    obtain ⟨x3, p3, r3, q3, h3⟩ := ownerRequest_touches
      (ownerRequest c.drain.act (valveValue c.drain (drainOpen (s.tank t)))
        (ownerRequest c.inlet.act (valveValue c.inlet (inletOpen (s.tank t))) s))
      c.rework.act (valveValue c.rework (reworkOpen (s.tank t)))
    refine ⟨((s.actuators.set c.inlet.act x1).set c.drain.act x2).set c.rework.act x3, p3, r3, q3, ?_⟩
    dsimp only
    rw [h3, h2, h1]

/-- R40: the RELEASING tank is read from the tanks alone. -/
theorem releasingTank_congr {s t : State} (h : t.tanks = s.tanks) : releasingTank t = releasingTank s := by
  cases s; cases t; simp only at h; subst h; rfl

/-- R66: the pass-through queue is flushed into the results. -/
theorem flushPass_eq (code : Code) :
    flushPass code s =
      { s with
        line := { s.line with passQ := [] }
        port := { s.port with results := s.port.results ++ s.line.passQ.map fun e => passResultOf e.tag code [] } } := by
  have key : ∀ (q : List PassEntry) (s : State),
      q.foldl (fun s e => passResult e.tag code [] s) s =
        { s with port := { s.port with results := s.port.results ++ q.map fun e => passResultOf e.tag code [] } } := by
    intro q
    induction q with
    | nil => intro s; simp
    | cons e q ih => intro s; rw [List.foldl_cons, ih]; simp [passResult, pushItem, State.setPort, passResultOf]
  simp [flushPass, key, State.setLine]

theorem drainFailed_of_not_releasing (a : ActIx) (h : releasingTank s = none) : drainFailed a s = s := by
  simp [drainFailed, h]

/-! ### What `ownerRequest` leaves alone -/

@[simp] theorem ownerRequest_pending (a : ActIx) (v : Nat) : (ownerRequest a v s).pending = s.pending := by
  obtain ⟨_, _, _, _, h⟩ := ownerRequest_touches s a v; rw [h]
@[simp] theorem ownerRequest_port (a : ActIx) (v : Nat) : (ownerRequest a v s).port = s.port := by
  obtain ⟨_, _, _, _, h⟩ := ownerRequest_touches s a v; rw [h]
@[simp] theorem ownerRequest_points (a : ActIx) (v : Nat) : (ownerRequest a v s).points = s.points := by
  obtain ⟨_, _, _, _, h⟩ := ownerRequest_touches s a v; rw [h]
@[simp] theorem ownerRequest_curves (a : ActIx) (v : Nat) : (ownerRequest a v s).curves = s.curves := by
  obtain ⟨_, _, _, _, h⟩ := ownerRequest_touches s a v; rw [h]
@[simp] theorem ownerRequest_interlocks (a : ActIx) (v : Nat) : (ownerRequest a v s).interlocks = s.interlocks := by
  obtain ⟨_, _, _, _, h⟩ := ownerRequest_touches s a v; rw [h]
@[simp] theorem ownerRequest_counters (a : ActIx) (v : Nat) : (ownerRequest a v s).counters = s.counters := by
  obtain ⟨_, _, _, _, h⟩ := ownerRequest_touches s a v; rw [h]
@[simp] theorem ownerRequest_streams (a : ActIx) (v : Nat) : (ownerRequest a v s).streams = s.streams := by
  obtain ⟨_, _, _, _, h⟩ := ownerRequest_touches s a v; rw [h]
@[simp] theorem ownerRequest_accounts (a : ActIx) (v : Nat) : (ownerRequest a v s).accounts = s.accounts := by
  obtain ⟨_, _, _, _, h⟩ := ownerRequest_touches s a v; rw [h]
@[simp] theorem ownerRequest_cells (a : ActIx) (v : Nat) : (ownerRequest a v s).cells = s.cells := by
  obtain ⟨_, _, _, _, h⟩ := ownerRequest_touches s a v; rw [h]
@[simp] theorem ownerRequest_chains (a : ActIx) (v : Nat) : (ownerRequest a v s).chains = s.chains := by
  obtain ⟨_, _, _, _, h⟩ := ownerRequest_touches s a v; rw [h]
@[simp] theorem ownerRequest_tanks (a : ActIx) (v : Nat) : (ownerRequest a v s).tanks = s.tanks := by
  obtain ⟨_, _, _, _, h⟩ := ownerRequest_touches s a v; rw [h]
@[simp] theorem ownerRequest_disch (a : ActIx) (v : Nat) : (ownerRequest a v s).disch = s.disch := by
  obtain ⟨_, _, _, _, h⟩ := ownerRequest_touches s a v; rw [h]
@[simp] theorem ownerRequest_timers (a : ActIx) (v : Nat) : (ownerRequest a v s).timers = s.timers := by
  obtain ⟨_, _, _, _, h⟩ := ownerRequest_touches s a v; rw [h]
@[simp] theorem ownerRequest_line_params (a : ActIx) (v : Nat) : (ownerRequest a v s).line.params = s.line.params := by
  obtain ⟨_, _, _, _, h⟩ := ownerRequest_touches s a v; rw [h]
@[simp] theorem ownerRequest_line_nodes (a : ActIx) (v : Nat) : (ownerRequest a v s).line.nodes = s.line.nodes := by
  obtain ⟨_, _, _, _, h⟩ := ownerRequest_touches s a v; rw [h]
@[simp] theorem ownerRequest_line_scan (a : ActIx) (v : Nat) : (ownerRequest a v s).line.scan = s.line.scan := by
  obtain ⟨_, _, _, _, h⟩ := ownerRequest_touches s a v; rw [h]
@[simp] theorem ownerRequest_line_passQ (a : ActIx) (v : Nat) : (ownerRequest a v s).line.passQ = s.line.passQ := by
  obtain ⟨_, _, _, _, h⟩ := ownerRequest_touches s a v; rw [h]
@[simp] theorem ownerRequest_line_setRun (a : ActIx) (v : Nat) : (ownerRequest a v s).line.setRun = s.line.setRun := by
  obtain ⟨_, _, _, _, h⟩ := ownerRequest_touches s a v; rw [h]
@[simp] theorem ownerRequest_line_allSafePending (a : ActIx) (v : Nat) : (ownerRequest a v s).line.allSafePending = s.line.allSafePending := by
  obtain ⟨_, _, _, _, h⟩ := ownerRequest_touches s a v; rw [h]
@[simp] theorem ownerRequest_line_hold (a : ActIx) (v : Nat) : (ownerRequest a v s).line.hold = s.line.hold := by
  obtain ⟨_, _, _, _, h⟩ := ownerRequest_touches s a v; rw [h]
@[simp] theorem ownerRequest_node (a : ActIx) (v : Nat) (n : NodeIx) : (ownerRequest a v s).node n = s.node n := by
  simp [State.node]
@[simp] theorem ownerRequest_scanEntry (a : ActIx) (v : Nat) (i : ScanIx) : (ownerRequest a v s).scanEntry i = s.scanEntry i := by
  simp [State.scanEntry]
@[simp] theorem ownerRequest_point (a : ActIx) (v : Nat) (j : PointIx) : (ownerRequest a v s).point j = s.point j := by
  simp [State.point]
@[simp] theorem ownerRequest_curve (a : ActIx) (v : Nat) (j : CurveIx) : (ownerRequest a v s).curve j = s.curve j := by
  simp [State.curve]
@[simp] theorem ownerRequest_interlock (a : ActIx) (v : Nat) (j : InterlockIx) : (ownerRequest a v s).interlock j = s.interlock j := by
  simp [State.interlock]
@[simp] theorem ownerRequest_counter (a : ActIx) (v : Nat) (j : CounterIx) : (ownerRequest a v s).counter j = s.counter j := by
  simp [State.counter]
@[simp] theorem ownerRequest_stream (a : ActIx) (v : Nat) (j : StreamIx) : (ownerRequest a v s).stream j = s.stream j := by
  simp [State.stream]
@[simp] theorem ownerRequest_cell (a : ActIx) (v : Nat) (j : CellIx) : (ownerRequest a v s).cell j = s.cell j := by
  simp [State.cell]
@[simp] theorem ownerRequest_chain (a : ActIx) (v : Nat) (j : ChainIx) : (ownerRequest a v s).chain j = s.chain j := by
  simp [State.chain]
@[simp] theorem ownerRequest_tank (a : ActIx) (v : Nat) (j : TankIx) : (ownerRequest a v s).tank j = s.tank j := by
  simp [State.tank]
@[simp] theorem ownerRequest_clock (a : ActIx) (v : Nat) : (ownerRequest a v s).clock = s.clock := by
  simp [State.clock]
@[simp] theorem ownerRequest_inReset (a : ActIx) (v : Nat) : (ownerRequest a v s).inReset = s.inReset := by
  simp [State.inReset]
@[simp] theorem ownerRequest_releasingTank (a : ActIx) (v : Nat) : releasingTank (ownerRequest a v s) = releasingTank s :=
  releasingTank_congr (by simp)

/-! ### What `tankRequest` leaves alone -/

@[simp] theorem tankRequest_pending (t : TankIx) : (tankRequest t s).pending = s.pending := by
  obtain ⟨_, _, _, _, h⟩ := tankRequest_touches s t; rw [h]
@[simp] theorem tankRequest_port (t : TankIx) : (tankRequest t s).port = s.port := by
  obtain ⟨_, _, _, _, h⟩ := tankRequest_touches s t; rw [h]
@[simp] theorem tankRequest_points (t : TankIx) : (tankRequest t s).points = s.points := by
  obtain ⟨_, _, _, _, h⟩ := tankRequest_touches s t; rw [h]
@[simp] theorem tankRequest_curves (t : TankIx) : (tankRequest t s).curves = s.curves := by
  obtain ⟨_, _, _, _, h⟩ := tankRequest_touches s t; rw [h]
@[simp] theorem tankRequest_interlocks (t : TankIx) : (tankRequest t s).interlocks = s.interlocks := by
  obtain ⟨_, _, _, _, h⟩ := tankRequest_touches s t; rw [h]
@[simp] theorem tankRequest_counters (t : TankIx) : (tankRequest t s).counters = s.counters := by
  obtain ⟨_, _, _, _, h⟩ := tankRequest_touches s t; rw [h]
@[simp] theorem tankRequest_streams (t : TankIx) : (tankRequest t s).streams = s.streams := by
  obtain ⟨_, _, _, _, h⟩ := tankRequest_touches s t; rw [h]
@[simp] theorem tankRequest_accounts (t : TankIx) : (tankRequest t s).accounts = s.accounts := by
  obtain ⟨_, _, _, _, h⟩ := tankRequest_touches s t; rw [h]
@[simp] theorem tankRequest_cells (t : TankIx) : (tankRequest t s).cells = s.cells := by
  obtain ⟨_, _, _, _, h⟩ := tankRequest_touches s t; rw [h]
@[simp] theorem tankRequest_chains (t : TankIx) : (tankRequest t s).chains = s.chains := by
  obtain ⟨_, _, _, _, h⟩ := tankRequest_touches s t; rw [h]
@[simp] theorem tankRequest_tanks (t : TankIx) : (tankRequest t s).tanks = s.tanks := by
  obtain ⟨_, _, _, _, h⟩ := tankRequest_touches s t; rw [h]
@[simp] theorem tankRequest_disch (t : TankIx) : (tankRequest t s).disch = s.disch := by
  obtain ⟨_, _, _, _, h⟩ := tankRequest_touches s t; rw [h]
@[simp] theorem tankRequest_timers (t : TankIx) : (tankRequest t s).timers = s.timers := by
  obtain ⟨_, _, _, _, h⟩ := tankRequest_touches s t; rw [h]
@[simp] theorem tankRequest_line_params (t : TankIx) : (tankRequest t s).line.params = s.line.params := by
  obtain ⟨_, _, _, _, h⟩ := tankRequest_touches s t; rw [h]
@[simp] theorem tankRequest_line_nodes (t : TankIx) : (tankRequest t s).line.nodes = s.line.nodes := by
  obtain ⟨_, _, _, _, h⟩ := tankRequest_touches s t; rw [h]
@[simp] theorem tankRequest_line_scan (t : TankIx) : (tankRequest t s).line.scan = s.line.scan := by
  obtain ⟨_, _, _, _, h⟩ := tankRequest_touches s t; rw [h]
@[simp] theorem tankRequest_line_passQ (t : TankIx) : (tankRequest t s).line.passQ = s.line.passQ := by
  obtain ⟨_, _, _, _, h⟩ := tankRequest_touches s t; rw [h]
@[simp] theorem tankRequest_line_setRun (t : TankIx) : (tankRequest t s).line.setRun = s.line.setRun := by
  obtain ⟨_, _, _, _, h⟩ := tankRequest_touches s t; rw [h]
@[simp] theorem tankRequest_line_allSafePending (t : TankIx) : (tankRequest t s).line.allSafePending = s.line.allSafePending := by
  obtain ⟨_, _, _, _, h⟩ := tankRequest_touches s t; rw [h]
@[simp] theorem tankRequest_line_hold (t : TankIx) : (tankRequest t s).line.hold = s.line.hold := by
  obtain ⟨_, _, _, _, h⟩ := tankRequest_touches s t; rw [h]
@[simp] theorem tankRequest_node (t : TankIx) (n : NodeIx) : (tankRequest t s).node n = s.node n := by
  simp [State.node]
@[simp] theorem tankRequest_scanEntry (t : TankIx) (i : ScanIx) : (tankRequest t s).scanEntry i = s.scanEntry i := by
  simp [State.scanEntry]
@[simp] theorem tankRequest_point (t : TankIx) (j : PointIx) : (tankRequest t s).point j = s.point j := by
  simp [State.point]
@[simp] theorem tankRequest_curve (t : TankIx) (j : CurveIx) : (tankRequest t s).curve j = s.curve j := by
  simp [State.curve]
@[simp] theorem tankRequest_interlock (t : TankIx) (j : InterlockIx) : (tankRequest t s).interlock j = s.interlock j := by
  simp [State.interlock]
@[simp] theorem tankRequest_counter (t : TankIx) (j : CounterIx) : (tankRequest t s).counter j = s.counter j := by
  simp [State.counter]
@[simp] theorem tankRequest_stream (t : TankIx) (j : StreamIx) : (tankRequest t s).stream j = s.stream j := by
  simp [State.stream]
@[simp] theorem tankRequest_cell (t : TankIx) (j : CellIx) : (tankRequest t s).cell j = s.cell j := by
  simp [State.cell]
@[simp] theorem tankRequest_chain (t : TankIx) (j : ChainIx) : (tankRequest t s).chain j = s.chain j := by
  simp [State.chain]
@[simp] theorem tankRequest_tank (t : TankIx) (j : TankIx) : (tankRequest t s).tank j = s.tank j := by
  simp [State.tank]
@[simp] theorem tankRequest_clock (t : TankIx) : (tankRequest t s).clock = s.clock := by
  simp [State.clock]
@[simp] theorem tankRequest_inReset (t : TankIx) : (tankRequest t s).inReset = s.inReset := by
  simp [State.inReset]
@[simp] theorem tankRequest_releasingTank (t : TankIx) : releasingTank (tankRequest t s) = releasingTank s :=
  releasingTank_congr (by simp)

end Sys2Proof.Machine
end

