-- ==== Sys2Proof/Tests/Slice0.lean ====
section
/-! SUPPORT. The model's own tests: the smoke test of the operands, the manual's worked examples, and one witness theorem for every
statement that has hypotheses: states and operands that meet them, clause by clause. Expected results are the manual's. -/

namespace Sys2Proof.Tests

open Sys2Proof.Machine

set_option maxRecDepth 20000

/-! ## Helpers -/

/-- The state after a command; the state before it, had it stopped. -/
def after (c : Instr) (s : State) : State :=
  match exec c s with
  | .next t => t
  | .fault _ => s
  | .refused _ => s

/-- The states after a list of commands, taken in order. -/
def afterAll (cs : List Instr) (s : State) : State := cs.foldl (fun s c => after c s) s

/-- The part with the one request `r` at its port. -/
def asking (r : Request) (s : State) : State := { s with port := { s.port with requests := [r] } }

/-- The code of the last RESULT produced. -/
def lastCode (s : State) : Option Code := s.port.results.getLast?.map (·.code)

def good (p : Point) (v : Nat) : Point := { p with value := v, quality := .good }

/-! ## A plant after the manual's examples -/

def fieldPoint (k : PointKind) (n : NodeIx) (c : Channel) (curve : Option CurveIx) : Point :=
  { cfg := some { kind := k, source := .field n c, curve := curve, staleLimit := 30, mirror := false } }

def counterPoint (q : CounterIx) (k : Nat) : Point :=
  { cfg := some { kind := .flow, source := .counter q k, curve := none, staleLimit := 30, mirror := false } }

/-- 2.5: curve C2, the silver electrode. -/
def silverCurve : Curve := [(1800, 1000), (2390, 10000), (2980, 100000)]

/-- 2.6: curve C3, the pH probe. -/
def phCurve : Curve := [(-2000, 1500), (-1000, 1000), (1000, 400)]

/-- 1.8: stream S2. -/
def fixerCfg : StreamCfg :=
  { kind := .fixer, silverPoint := 4, flowPoint := 5, fallbackConc := 100, fallbackFlow := 100, route := 3,
    primary := .cell 1, primaryPos := 1, divert := some (.chain 0), divertPos := 2, minDivert := 60, shift := 2 }

/-- 6.7: cell E1. -/
def cellCfg1 : CellCfg :=
  { pwmPin := 5, voltPoint := 16, factor := 1018, iMin := 500, iMax := 20000, iFs := 25000, vLimit := 2800, vHyst := 150,
    interval := 10, divider := 16, threshold := 2000000000 }

/-- 7.6: chain K0. -/
def chainCfg0 : ChainCfg :=
  { order := 12, aFirst := 0, bFirst := 1000, tail := some 22, limit := 500, count := 3, swap := 900 }

/-- 8.7: tank T1. -/
def tankCfg1 : TankCfg :=
  { capacity := 12345678, levelPoint := 18, silverPoint := 19, phPoint := 20, outletPoint := 21, high := 900, low := 100,
    inlet := { act := 7, opened := 1000, closed := 0 }, drain := { act := 8, opened := 1000, closed := 0 },
    rework := { act := 9, opened := 1000, closed := 0 }, reworkDest := .chain 0, dwell := 300, samples := 3, timeout := 600 }

/-- 9.9: the permit. -/
def permitCfg1 : PermitCfg :=
  { cap := 2000000, concCap := 2500, phLow := 600, phHigh := 950, dayStart := 21600, silverPoint := 24, phPoint := 25,
    lowPermille := 5, start := 0 }

def fieldAct (n : NodeIx) (c : Channel) (safe : Nat) : Actuator :=
  { cfg := some { binding := .field n c, safe := safe }, confirmed := some 0 }

def pinAct (p : PinIx) : Actuator := { cfg := some { binding := .pin p, safe := 0 }, confirmed := some 0 }

/-- The reset state with no ALL-SAFE pending: nothing holds the line and nothing waits. -/
def calm : State := { State.reset with line := { State.reset.line with allSafePending := false } }

/-- Points, curves, pins and actuators. -/
def plantPoints : State :=
  calm
    |>.setCurve 2 silverCurve |>.setCurve 3 phCurve
    |>.setPoint 4 (fieldPoint .silver 8 0 (some 2)) |>.setPoint 5 (counterPoint 0 250)
    |>.setPoint 16 (fieldPoint .volt 19 0 none) |>.setPoint 18 (fieldPoint .level 17 0 none)
    |>.setPoint 19 (fieldPoint .silver 17 1 none) |>.setPoint 20 (fieldPoint .ph 17 2 none)
    |>.setPoint 21 (fieldPoint .flow 17 3 none) |>.setPoint 22 (fieldPoint .silver 21 0 none)
    |>.setPoint 24 (fieldPoint .silver 30 0 none) |>.setPoint 25 (fieldPoint .ph 30 1 none)
    |>.setPin 1 { fn := .counter 0 .rising false } |>.setPin 3 { fn := .output false }
    |>.setPin 5 { fn := .cellPwm 1 false } |>.setPin 9 { fn := .analog }
    |>.setPin 0 { fn := .input true 40, level := true }
    |>.setActuator 1 (pinAct 3) |>.setActuator 3 (fieldAct 13 1 1) |>.setActuator 7 (fieldAct 39 0 0)
    |>.setActuator 8 (fieldAct 39 1 0) |>.setActuator 9 (fieldAct 39 2 0) |>.setActuator 12 (fieldAct 11 0 0)

/-- The plant with its stream, cell, chain, tank and permit loaded, all out of service. -/
def plant : State :=
  { plantPoints with disch := { plantPoints.disch with permit := some permitCfg1 } }
    |>.setStream 2 { cfg := some fixerCfg } |>.setCell 1 { cfg := some cellCfg1 }
    |>.setChain 0 { cfg := some chainCfg0, metering := some 1000 }
    |>.setTank 1 { cfg := some tankCfg1, metering := some 1000 }

/-! ## Operands -/

theorem test_plant_frame_with_no_byte_is_ill_formed : Instr.WellFormed (.plantFrameReceived []) = false := by decide
theorem test_field_reply_with_no_byte_is_ill_formed : Instr.WellFormed (.fieldReplyReceived []) = false := by decide
theorem test_field_frame_with_no_byte_is_ill_formed : Instr.WellFormed (.fieldFrameDiscarded []) = false := by decide
theorem test_conversion_round_with_no_reference_is_ill_formed :
    Instr.WellFormed (.analogSamplingRound ⟨0, 1⟩ ⟨0, 1⟩ ⟨0, 1⟩ ⟨0, 0⟩) = false ∧
      Instr.WellFormed (.analogSamplingRound ⟨0, 1⟩ ⟨0, 1⟩ ⟨0, 1⟩ ⟨0, 1⟩) = true := by decide
theorem test_frames_with_bytes_are_well_formed :
    Instr.WellFormed (.plantFrameReceived [90]) = true ∧ Instr.WellFormed (.fieldReplyReceived [0]) = true ∧
      Instr.WellFormed (.fieldFrameDiscarded [0]) = true ∧ Instr.WellFormed (.loadPoint) = true := by decide

/-! ## Frames (R203, R204): the check values over the characters 1 to 9 -/

def nineDigits : List Byte := [49, 50, 51, 52, 53, 54, 55, 56, 57]

theorem test_crc8_check_value : crc8 nineDigits = 244 := by decide
theorem test_crc16_check_value : crc16 nineDigits = 10673 := by decide

/-! ## The manual's worked examples -/

/-- 2.5. -/
theorem test_silver_curve :
    onCurve 2100 silverCurve = (5576, false) ∧ onCurve 1750 silverCurve = (1000, true) ∧
      onCurve 1800 silverCurve = (1000, false) ∧ onCurve 2390 silverCurve = (10000, false) ∧
      onCurve 2685 silverCurve = (55000, false) ∧ onCurve 2980 silverCurve = (100000, false) ∧
      onCurve 3100 silverCurve = (100000, true) := by decide

/-- 2.6. -/
theorem test_ph_curve :
    kindClamp .ph (onCurve (-1900) phCurve) = (1400, .limited) ∧ kindClamp .ph (onCurve (-995) phCurve) = (998, .good) ∧
      kindClamp .ph (onCurve 0 phCurve) = (700, .good) ∧ kindClamp .ph (onCurve 1000 phCurve) = (400, .good) ∧
      kindClamp .ph (onCurve 1200 phCurve) = (400, .limited) := by decide

/-- 2.5: a poll of P4 brings 2100. -/
theorem test_reading_reaches_point :
    (deliverReading 4 8 0 2100 false plant).point 4 =
      { cfg := (plant.point 4).cfg, value := 5576, quality := .good, age := 0, lastRaw := 2100 } := by decide

/-- 1.8, before step 1. -/
def fixerRunning : State :=
  plant
    |>.setStream 2
      { cfg := some fixerCfg, state := .active, mass := 41250000, volume := 8120400, volResidue := 60, massResidue := 412,
        rate := 500 }
    |>.setPoint 4 (good (plant.point 4) 5576) |>.setCounter 0 37
    |>.setActuator 3 { fieldAct 13 1 1 with desired := 1, confirmed := some 1 }
    |>.setCell 1 { cfg := some cellCfg1, state := .run, regTimer := some 10000 }

/-- 1.8, step 1. -/
theorem test_fixer_stream_step_1 :
    (stepStream 2 fixerRunning).stream 2 =
      { cfg := some fixerCfg, state := .active, mass := 41250518, volume := 8120493, volResidue := 10, massResidue := 980,
        rate := 504, credited := .primary, snapshot := 37, lastMass := 518, lastVol := 93 } ∧
      ((stepStream 2 fixerRunning).cell 1).inflow = 518 ∧ ((stepStream 2 fixerRunning).point 5).value = 93 := by decide

/-- 1.8, step 2: 40 pulses more. -/
theorem test_fixer_stream_step_2 :
    let s := stepStream 2 ((stepStream 2 fixerRunning).setCounter 0 77)
    ((s.stream 2).lastMass, (s.stream 2).rate, (s.stream 2).massResidue) = (558, 517, 580) ∧
      (s.cell 1).inflow = 1076 := by decide

/-- 5.8: the wrap, and the overrun that loses a whole turn. -/
theorem test_counter_wraps :
    pulsesSince ((plant.setPin 1 { fn := .counter 2 .rising false }).setCounter 2 1464) 2 65000 = 2000 ∧
      pulsesSince ((plant.setPin 1 { fn := .counter 2 .rising false }).setCounter 2 5928) 2 1464 = 4464 := by decide

/-- 5.8: the cascaded pair at its 65,536th pulse. -/
theorem test_cascaded_pair_carries :
    let s := (plant.setPin 1 { fn := .counter 2 .rising true }).setCounter 2 65535
    ((after (.counterEdge 1 true) s).counter 2, (after (.counterEdge 1 true) s).counter 3,
      counterValue (after (.counterEdge 1 true) s) 2) = (0, 1, 65536) := by decide

/-- 5.9: at 49 ms the level has been low for 40 ms, and low is active. -/
theorem test_debounce_expires :
    ((afterAll [.pinLevelChange 0 false, .debounceTimerExpiry 0] plant).pin 0).debounced = true ∧
      ((after (.pinLevelChange 0 false) plant).pin 0).debounce = some 40 := by decide

/-- 6.7, before the regulation: E1 RUN at fold-back 1, inflow 1,814 µg/s. -/
def cellRunning : State :=
  plant
    |>.setCell 1 { cfg := some cellCfg1, state := .run, fold := 1, plated := 1999950000, regTimer := some 0 }
    |>.setPoint 16 (good (plant.point 16) 2750)
    |>.setStream 2 { cfg := some fixerCfg, state := .active, rate := 504, credited := .primary }
    |>.setStream 6 { cfg := some { fixerCfg with route := 4 }, state := .active, rate := 1310, credited := .primary }

/-- 6.7, and the latched duty at the next frame start. -/
theorem test_cell_regulation :
    let x := (after (.regulationTimerExpiry 1) cellRunning).cell 1
    (x.inflowRate, x.target, x.effective, x.pendingDuty, x.plated, x.platedResidue) =
        (1814, 1803, 1578, 65, 1999967642, 40) ∧
      ((afterAll [.regulationTimerExpiry 1, .pwmFrameStart 1] cellRunning).cell 1).latchedDuty = 65 ∧
      [highCount 65 0, highCount 65 1, highCount 65 2, highCount 65 3] = [17, 16, 16, 16] := by decide

/-- 6.8, expiry 4: the voltage is below the band, and the plated estimate reaches its threshold. -/
theorem test_cell_folds_out_and_harvest_is_due :
    let s := (cellRunning.setPoint 16 (good (plant.point 16) 2640)).setCell 1
      { cfg := some cellCfg1, state := .run, fold := 3, plated := 1999995357, platedResidue := 260, regTimer := some 0 }
    let t := after (.regulationTimerExpiry 1) s
    ((t.cell 1).fold, (t.cell 1).effective, (t.cell 1).pendingDuty, (t.cell 1).plated, (t.cell 1).platedResidue) =
        (2, 1352, 55, 2000010472, 620) ∧
      t.reports.entries.getLast?.map (·.report) =
        some (.alert .harvestDue (.cell 1) [2000010472, 2000000000] none) := by decide

/-- 7.6, before metering 2. -/
def chainRunning : State :=
  plant
    |>.setChain 0
      { cfg := some chainCfg0, metering := some 0, run := 2, volume := 322
        posA := { state := .lead, capacity := 50000000, loading := 44999413 }
        posB := { state := .lag, capacity := 50000000, loading := 120192, tailResidue := 600 } }
    |>.setPoint 22 (good (plant.point 22) 700)

/-- 7.6, metering 2: the breakthrough swap. -/
theorem test_breakthrough_swap :
    let t := after (.chainMetering 0) chainRunning
    ((t.chain 0).posA.state, (t.chain 0).posB.state, (t.chain 0).posB.loading, (t.chain 0).posB.tailResidue,
        (t.chain 0).run, (t.chain 0).volume) = (.spent, .lead, 120418, 0, 0, 0) ∧
      (t.actuator 12).desired = 1000 ∧ t.line.controlQ = [12] ∧
      t.reports.entries.getLast?.map (·.report) =
        some (.alert .cartridgeSpent (.chain 0) [1, 1, 44999413, 50000000] none) := by decide

/-- 8.7, before the metering at time 0. -/
def tankFilling : State :=
  plant
    |>.setTank 1
      { cfg := some tankCfg1, state := .filling, batchNo := 41, fillMass := 19987400, fillVol := 11050300,
        metering := some 0 }
    |>.setPoint 18 (good (plant.point 18) 903)
    |>.setActuator 7 { fieldAct 39 0 0 with desired := 1000, confirmed := some 1000 }

/-- 8.7, time 0. -/
theorem test_close_of_fill :
    let x := (after (.tankMetering 1) tankFilling).tank 1
    (x.state, x.batchNo, x.fillMass, x.fillVol, x.dwell) = (.mixing, 42, 0, 0, some 300000) ∧
      x.batch = some { tank := 1, number := 42, volume := 11050300, fillMass := 19987400 } ∧
      (after (.tankMetering 1) tankFilling).line.controlQ = [7] := by decide

/-- 8.7: T1 at 370 s, one silver reading short. -/
def tankTesting : State :=
  tankFilling.setTank 1
    { cfg := some tankCfg1, state := .testing, batchNo := 42, silverSamples := 2, phSamples := 3, test := some 230000,
      metering := some 500
      batch := some { tank := 1, number := 42, volume := 11050300, conc := 1804, phMin := 698, phMax := 712,
                      fillMass := 19987400 } }

/-- 8.7, 370 s: the decision. -/
theorem test_batch_passes :
    let t := testSamples 19 1765 tankTesting
    (t.tank 1).state = .queued ∧ t.disch.queue = [1] ∧
      (t.tank 1).batch =
        some { tank := 1, number := 42, volume := 11148147, conc := 1804, phMin := 698, phMax := 712, estimate := 20111258,
               fillMass := 19987400 } := by decide

/-- 8.7, with 2,610 µg/L among the readings. -/
theorem test_batch_fails :
    let t := testSamples 19 2610 tankTesting
    (t.tank 1).state = .rework ∧ ((t.tank 1).batch.map (·.cause)) = some .testFailed := by decide

/-- 8.8, metering 1. -/
def tankReworking : State :=
  tankTesting
    |>.setTank 1
      { cfg := some tankCfg1, state := .rework, batchNo := 42, metering := some 0
        batch := some { tank := 1, number := 42, volume := 11148147, conc := 2610, estimate := 1, fillMass := 0,
                        cause := .testFailed } }
    |>.setPoint 21 (good (plant.point 21) 1837)
    |>.setChain 0 { cfg := some chainCfg0, metering := some 1000, posA := { state := .lead, capacity := 50000000 } }

theorem test_rework_metering :
    let t := after (.tankMetering 1) tankReworking
    ((t.tank 1).outMassResidue, (t.chain 0).posA.loading, (t.chain 0).volume, (t.tank 1).paused) =
      (570, 4794, 1837, false) := by decide

/-- 9.9 at clock 21,594: T1 RELEASING, T3 QUEUED. -/
def releasingPlant : State :=
  { plant with
    disch :=
      { permit := some permitCfg1, permitDay := some 411, consumed := 1999600, released := 2, peak := 1960,
        lowAlerted := true, clock := some { day := 412, sec := 21594 }, queue := [3] } }
    |>.setTank 1
      { cfg := some tankCfg1, state := .releasing, metering := some 1000
        batch := some { tank := 1, number := 42, volume := 0, conc := 1000, estimate := 5000, released := 2200,
                        fillMass := 0 } }
    |>.setTank 3 { cfg := some { tankCfg1 with inlet := { act := 4, opened := 1, closed := 0 }
                                               drain := { act := 5, opened := 1, closed := 0 }
                                               rework := { act := 6, opened := 1, closed := 0 } }
                   state := .queued
                   batch := some { tank := 3, number := 7, volume := 0, estimate := 40000, fillMass := 0 } }
    |>.setPoint 18 (good (plant.point 18) 500) |>.setPoint 21 (good (plant.point 21) 1200)
    |>.setPoint 24 (good (plant.point 24) 1100) |>.setPoint 25 (good (plant.point 25) 720)

/-- 9.9 at 21,595: the budget is crossed and the release stops. -/
theorem test_budget_stops_the_release :
    let t := after .dischargeTimerExpiry releasingPlant
    t.disch.consumed = 2000800 ∧ t.disch.queue = [1, 3] ∧ (t.tank 1).state = .queued ∧
      ((t.tank 1).batch.map (·.released)) = some 3400 ∧
      (t.reports.entries.drop 1).map (·.report) =
        [.alert .budgetExhausted .permit [2000800, 2000000] (some { day := 412, sec := 21595 }),
          .alert .releaseStopped (.tank 1) [1, 42, 1600] (some { day := 412, sec := 21595 })] := by decide

/-- 9.9 at 21,600: the day rolls over and T1 is released again. -/
theorem test_day_rolls_over :
    let stopped := (after .dischargeTimerExpiry releasingPlant)
    let t := after .dischargeTimerExpiry
      { stopped with disch :=
        { stopped.disch with consumed := 2002590, clock := some { day := 412, sec := 21599 } } }
    (t.disch.permitDay, t.disch.consumed, t.disch.released, t.disch.peak, t.disch.queue, (t.tank 1).state) =
        (some 412, 0, 0, 0, [3], .releasing) ∧
      t.reports.entries.getLast?.map (·.report) =
        some (.day 411 2002590 2000000 2 1960 (some { day := 412, sec := 21600 })) := by decide

/-! ## Witnesses: states and operands that meet the hypotheses of each statement, clause by clause -/

/-- The part executes requests. -/
def free (s : State) : Prop := s.inReset = false ∧ s.port.holding = false ∧ s.port.ended = false

theorem executing_asking (r : Request) (s : State) (h : free s) : Executing (asking r s) r [] :=
  ⟨h.1, h.2.1, h.2.2, rfl⟩

/-- The part with a LOAD of record `i` of table `t` at its port, under tag 7. -/
def load (t : Table) (i : Nat) (record : List Byte) (s : State) : State := asking (loadOf t i record 7) s

theorem loads_load (t : Table) (i : Nat) (record : List Byte) (s : State) (h : free s)
    (hl : record.length = recordLength t record) : Loads t i (load t i record s) record 7 [] :=
  ⟨executing_asking _ _ h, hl⟩

/-- The part with a command at its port, under tag 7. -/
def ask (c : Command) (args : List Byte) (s : State) : State := asking (commandOf c args 7) s

theorem executing_ask (c : Command) (args : List Byte) (s : State) (h : free s) :
    Executing (ask c args s) (commandOf c args 7) [] := executing_asking _ _ h

/-- The part in a POWER reset, in a PIN reset, and in both. -/
def poweringUp : State := after .powerReset plant
def pinHeld : State := after .resetPinAsserted plant
def bothHeld : State := after .resetPinAsserted poweringUp

theorem test_witness_StepRunsFrontCommand : ({ plant with pending := [.lineFree, .keepalive] } : State).pending =
    .lineFree :: [.keepalive] := by decide

theorem test_witness_QuietTimeOnEmptyQueue :
    (plant.pending = [] ∧ plant.inReset = false) ∧ (poweringUp.pending = [] ∧ poweringUp.inReset = true) := by decide

theorem test_witness_ResetEndLeavesTheResetState :
    (poweringUp.port.powerReset = true ∧ poweringUp.port.pinReset = false ∧ poweringUp.port.powerSeen = true) ∧
      (pinHeld.port.pinReset = true ∧ pinHeld.port.powerReset = false ∧ pinHeld.port.powerSeen = false) ∧
      (let s := after (.powerResetEnd false false) bothHeld
       s.port.pinReset = true ∧ s.port.powerReset = false ∧ s.port.powerSeen = true) ∧
      (bothHeld.port.powerReset = true ∧ bothHeld.port.pinReset = true) ∧
      (let s := afterAll [.resetPart, .transmitNextFrame] (ask .resetPart [] plant)
       s.inReset = false ∧ s.port.tx.map (·.resetOk) = some true) := by decide

theorem test_witness_ResetsCutOffAllActivity :
    pinHeld.inReset = true ∧ actsInReset .lineFree = false ∧ actsInReset (.plantFrameReceived [90]) = false := by decide

/-- A body of 240 bytes, the longest. -/
def longBody : List Byte := List.replicate 240 1

def someRequest : Request := { kind := 3, tag := 1, body := [18] }

def fullAnswer : ResultItem :=
  { tag := 1, code := .queueFull, part := 0, last := true, content := [], origin := .queueFull }

/-- The part with `n` requests and `m` QUEUE_FULL answers that wait. -/
def crowded (n m : Nat) : State :=
  { plant with port :=
    { plant.port with requests := List.replicate n someRequest, results := List.replicate m fullAnswer } }

theorem test_witness_EveryValidFrameIsTakenAsItsRequest :
    longBody.length ≤ 240 ∧
      (∀ n ∈ [0, 3], (crowded n 0).inReset = false ∧ (crowded n 0).port.rx = none ∧ (crowded n 0).port.requests.length < 4) ∧
      (4 ≤ (crowded 4 3).port.requests.length ∧ fullAnswers (crowded 4 3) < 4) ∧
      (4 ≤ (crowded 4 4).port.requests.length ∧ 4 ≤ fullAnswers (crowded 4 4)) := by decide

theorem test_witness_BrokenFramesAreDiscarded :
    plant.inReset = false ∧ plant.port.rx = none ∧
      ([0, 0] : List Byte) ≠ be 2 (crc16 (coveredBytes 3 1 [18])).toNat ∧
      ((1 : Byte).toNat < 2 ∧ 242 < (243 : Byte).toNat) ∧ ((89 : Byte) ≠ 90 ∧ (91 : Byte) ≠ 90) := by decide

def alertEntry (k : ReportKind) (o : AlertObject) (c : Sys2Proof.Class) : Entry := { report := .alert k o [] none, cls := c }

/-- Three reports: the first of class 1, masked, the other two of class 2. -/
def reporting : State :=
  { plant with reports :=
    { plant.reports with
      entries := [alertEntry .nodeLost (.node 0) 1, alertEntry .nodeBack (.node 0) 2, alertEntry .nodeBack (.node 1) 2]
      masks := #v[false, true, false, false] } }

/-- The part whose transmit path is busy. -/
def sending (ok : Bool) : State := { plant with port := { plant.port with tx := some { bytes := [90], resetOk := ok } } }

theorem test_witness_TransmitPathChoosesByUrgency :
    ((crowded 0 2).inReset = false ∧ (crowded 0 2).port.tx = none ∧ (crowded 0 2).port.results = fullAnswer :: [fullAnswer]) ∧
      (reporting.inReset = false ∧ reporting.port.tx = none ∧ reporting.port.results = [] ∧
        reporting.reports.entries =
          [alertEntry .nodeLost (.node 0) 1] ++ alertEntry .nodeBack (.node 0) 2 :: [alertEntry .nodeBack (.node 1) 2] ∧
        (∀ x ∈ [alertEntry .nodeLost (.node 0) 1], x.cls ≠ 2) ∧ reporting.reports.masks[(2 : Sys2Proof.Class)] = false ∧
        ∀ x ∈ reporting.reports.entries, x.cls < 2 → reporting.reports.masks[x.cls] = true) ∧
      (let s := { plant with reports := { plant.reports with masks := #v[true, true, true, true] } }
       s.port.results = [] ∧ s.reports.entries ≠ [] ∧ ∀ x ∈ s.reports.entries, s.reports.masks[x.cls] = true) ∧
      ((sending false).inReset = false ∧ (sending false).port.tx = some { bytes := [90], resetOk := false }) := by decide

/-- R204: the start, the length, the kind with the gap mark, the tag and the first body bytes of the two frames that wait. -/
theorem test_outbound_bytes :
    let bytes (s : State) : List Byte := (((after .transmitNextFrame s).port.tx).map (·.bytes)).getD []
    let lossy := { reporting with reports := { reporting.reports with gap := true } }
    ((bytes (crowded 0 2)).take 7, (bytes (crowded 0 2)).length) = ([90, 5, 65, 1, 13, 0, 1], 9) ∧
      ((bytes lossy).take 13, (bytes lossy).length) = ([90, 35, 194, 0, 13, 2, 14, 1, 0, 0, 255, 255, 255], 39) := by decide

/-- 12.3, 7.6: the body of a CARTRIDGE_SPENT alert, and those of the other three kinds. -/
theorem test_report_bodies :
    reportBody { report := .alert .cartridgeSpent (.chain 0) [1, 2, 65536, 50000000] (some { day := 258, sec := 66051 }), cls := 2 } =
        [17, 2, 7, 0, 1, 2, 1, 2, 3, 0, 0, 0, 0, 0, 1, 0, 0, 0, 0, 0, 2, 0, 0, 0, 1, 0, 0, 0, 0, 2, 250, 240, 128] ∧
      reportBody { report := .mirror 31 65538 .limited (-2) none, cls := 3 } =
        [3, 31, 1, 0, 2, 2, 255, 254, 0, 0, 255, 255, 255] ∧
      (reportBody { report := .day 1 2 3 4 5 none, cls := 2 }).length = 25 := by decide

/-- The silence timer of a state at its expiry. -/
def silent (fallback : Bool) (s : State) : State := { s with port := { s.port with silence := some 0, fallback := fallback } }

theorem test_witness_SilenceExpiryEntersFallback :
    ((silent true plant).inReset = false ∧ (silent true plant).port.silence = some 0 ∧ (silent true plant).port.fallback = true) ∧
      ((silent false plant).port.silence = some 0 ∧ (silent false plant).port.fallback = false ∧
        releasingTank (silent false plant) = none) ∧
      ((silent false releasingPlant).port.fallback = false ∧ releasingTank (silent false releasingPlant) = some 1) := by decide

/-- Every table with its first index out of range, and its last index in range. -/
theorem test_witness_PlantPortChecksRequests :
    (∀ t ∈ [Table.point, .curve, .scan, .stream, .actuator, .cell, .chain, .tank, .permit, .pinmap, .interlock, .classmap,
        .line],
      tableSize t < 256 ∧ tableSize t - 1 < tableSize t ∧
        (List.replicate 40 (2 : Byte)).length ≠ recordLength t (List.replicate 40 2)) ∧
      ((0 : Byte) ≠ 1 ∧ (0 : Byte) ≠ 2 ∧ (0 : Byte) ≠ 3) ∧ ((4 : Byte) ≠ 1 ∧ (4 : Byte) ≠ 2 ∧ (4 : Byte) ≠ 3) ∧
      13 < (14 : Byte).toNat ∧ 19 < (20 : Byte).toNat ∧
      (((1 : Byte).toNat, 1) ∈ commandLengths ∧ ([] : List Byte).length ≠ 1 ∧ ((19 : Byte).toNat, 0) ∈ commandLengths ∧
        ([0] : List Byte).length ≠ 0 ∧
        lastCode (after .unknownCommandCode (asking { kind := 3, tag := 7, body := [1] } plant)) = some .badValue ∧
        lastCode (after .unknownCommandCode (asking { kind := 3, tag := 7, body := [19, 0] } plant)) = some .badValue) ∧
      ((Command.startCell, Instr.startCell, 4) ∈ indexedCommands ∧ ([] : List Byte).length + 1 = argLength .startCell ∧
        lastCode (after .startCell (ask .startCell [4] plant)) = some .badIndex) ∧
      (lastCode (after .loadPoint (load .point 32 [] plant)) = some .badIndex ∧
        lastCode (after .loadPoint (load .point 31 [] plant)) = some .badValue ∧
        lastCode (after .otherKindRequest (asking { kind := 4, tag := 7, body := [] } plant)) = some .badValue ∧
        lastCode (after .badTableRequest (asking { kind := 2, tag := 7, body := [14] } plant)) = some .badTable ∧
        lastCode (after .unknownCommandCode (asking { kind := 3, tag := 7, body := [20] } plant)) = some .badValue) := by
  decide

/-- Log 5: the lengths that the claims name are those of the nineteen commands. -/
theorem test_command_lengths :
    allCommands.length = 19 ∧ commandLengths.length = 19 ∧
      ∀ c ∈ allCommands, (commandCode c, argLength c) ∈ commandLengths := by decide

theorem test_port_that_holds_executes_nothing :
    Instr.keepalive ∈ requestRows ∧
      (let s := { ask .keepalive [] plant with port := { (ask .keepalive [] plant).port with holding := true } }
       s.port.holding = true ∧ after .keepalive s = s) := by decide

theorem test_witness_ReadsAnswerTheContentInParts :
    Executing (asking (readOf .point 31 7) plant) (readOf .point 31 7) [] ∧ 31 < tableSize .point ∧
      Executing (asking (readOf .line 1 7) plant) (readOf .line 1 7) [] ∧ tableSize .line ≤ 1 :=
  ⟨executing_asking _ _ (by unfold free; decide), by decide, executing_asking _ _ (by unfold free; decide), by decide⟩

/-- The plant with its permit's points in the band and its clock set: DRAIN accepts. -/
def draining : State :=
  { plant with disch := { plant.disch with clock := some { day := 1, sec := 0 }, permitDay := some 1 } }
    |>.setPoint 24 (good (plant.point 24) 1100) |>.setPoint 25 (good (plant.point 25) 720)

/-- The further clauses of the contents: both values of each condition that a content names. -/
theorem test_witness_ReadsAnswerTheContentInParts_conditions :
    (plant.curve 2 ≠ [] ∧ plant.curve 7 = []) ∧ (Names plant (.stream 2) 3 ∧ ¬ Names plant (.stream 2) 15) ∧
      (Accepting chainRunning (.chain 0) ∧ ¬ Accepting plant (.chain 0)) ∧
      (¬ Accepting tankFilling (.tank 1) ∧ Accepting (tankFilling.setPoint 18 (good (plant.point 18) 899)) (.tank 1)) ∧
      (DrainOpen draining ∧ ¬ DrainOpen plant ∧ DrainPart plant 1 ∧ ¬ DrainPart plant 2) ∧
      (CondMet plant (.tankNotReleasing 3) ∧ ¬ CondMet plant (.cellRunning 1)) ∧
      (releasingTank plant = none ∧ releasingTank releasingPlant = some 1 ∧ (releasingPlant.tank 1).batch.isSome = true) := by
  simp only [← drainAccepts_iff, ← accepts_iff, ← condHolds_iff, ← mem_ownersOf, DrainPart]
  decide

/-- R205: the records of the plant are in range. -/
theorem test_witness_PlantRecordsAreReadAsCoded :
    PointCfg.InRange { kind := .flow, source := .counter 5 65535, curve := none, staleLimit := 600, mirror := false } ∧
      CurveInRange phCurve ∧ StreamCfg.InRange fixerCfg ∧ CellCfg.InRange cellCfg1 := by
  unfold PointCfg.InRange CurveInRange StreamCfg.InRange CellCfg.InRange; decide

theorem test_witness_ControlRecordsAreReadAsCoded :
    ChainCfg.InRange chainCfg0 ∧ TankCfg.InRange tankCfg1 ∧ PermitCfg.InRange permitCfg1 ∧ PinFn.InRange (.input true 255) ∧
      Cond.InRange (.budgetAbove 1000) ∧ LineParams.InRange { bitRate := 115200, window := 250, holdoff := 100, silence := 600 } ∧
      LineParams.InRange { bitRate := 19200, window := 5, holdoff := 10, silence := 0 } := by
  unfold ChainCfg.InRange TankCfg.InRange Valve.InRange PermitCfg.InRange PinFn.InRange Cond.InRange LineParams.InRange; decide

/-- R195, R205: records of each reading: what a record spells at the ends of its ranges, and records that spell nothing. -/
theorem test_witness_PlantRecordsAreReadAsCoded_readings :
    SpellsPoint [2, 2, 0, 0, 5, 255, 255, 0, 255, 2, 88, 0]
        { kind := .flow, source := .counter 5 65535, curve := none, staleLimit := 600, mirror := false } ∧
      (∀ c, ¬ SpellsPoint [6, 2, 0, 0, 5, 255, 255, 0, 255, 2, 88, 0] c) ∧
      (∀ c, ¬ SpellsPoint [2, 2, 0, 0, 5, 255, 255, 0, 255, 2, 89, 0] c) ∧
      (∀ c, ¬ SpellsCurve [1, 0, 0, 0, 0, 0] c) ∧
      SpellsScan [1, 31, 140, 160] (31, 36000) ∧ (∀ c, ¬ SpellsScan [1, 31, 140, 161] c) ∧ (∀ c, ¬ SpellsScan [2, 31, 0, 1] c) ∧
      (∀ c, ¬ SpellsStream (List.replicate 21 5) c) ∧
      SpellsActuator [2, 9, 9, 11, 3, 232] { binding := .pin 11, safe := 1000 } ∧
      (∀ c, ¬ SpellsActuator [2, 0, 0, 11, 3, 233] c) ∧ ∀ c, ¬ SpellsCell (List.replicate 24 2) c := by
  simp [SpellsPoint, SpellsCurve, SpellsScan, SpellsStream, SpellsActuator, SpellsCell, PointCfg.InRange, CurveInRange, Coded, IndexCoded, numberAt]
  refine ⟨?_, ?_, ?_, ?_⟩ <;> intros <;> omega

theorem test_witness_ControlRecordsAreReadAsCoded_readings :
    (∀ c, ¬ SpellsChain (List.replicate 13 2) c) ∧ (∀ c, ¬ SpellsTank (List.replicate 35 2) c) ∧
      (∀ c, ¬ SpellsPermit (List.replicate 27 2) c) ∧
      SpellsPin [2, 9, 9, 2, 9, 255, 9] (.input true 255) ∧ SpellsPin [4, 5, 9, 9, 3, 9, 1] (.counter 5 .both true) ∧
      SpellsPin [5, 9, 3, 1, 9, 9, 9] (.cellPwm 3 false) ∧ (∀ f, ¬ SpellsPin [4, 6, 0, 1, 1, 0, 0] f) ∧
      SpellsInterlock [1, 62, 3, 5, 3, 232, 3, 232] { node := 61, channel := 3, cond := .budgetAbove 1000, max := 1000 } ∧
      SpellsInterlock [1, 1, 0, 1, 9, 9, 0, 0] { node := 0, channel := 0, cond := .always, max := 0 } ∧
      (∀ e, ¬ SpellsInterlock [1, 62, 3, 5, 3, 233, 3, 232] e) ∧
      SpellsClass [1, 3] 3 ∧ (∀ c, ¬ SpellsClass [1, 4] c) ∧
      SpellsLine [1, 1, 194, 0, 250, 100, 2, 88] { bitRate := 115200, window := 250, holdoff := 100, silence := 600 } ∧
      ∀ c, ¬ SpellsLine [1, 1, 194, 0, 250, 100, 0, 4] c := by
  simp [SpellsChain, SpellsTank, SpellsPermit, PermitCfg.InRange, SpellsPin, PolarityCoded, Coded, SpellsInterlock, CondCoded, SpellsClass,
    SpellsLine, LineParams.InRange, numberAt]
  refine ⟨?_, ?_, ?_, ?_⟩
  · rintro (_ | _ | _ | _ | _ | _) <;> simp
    omega
  · rintro ⟨_, _, _ | _ | _ | _ | _, _⟩ <;> simp
    omega
  · intros; omega
  · intros; omega

/-! ### LOADs -/

theorem free_plant : free plant := by unfold free; decide

def farPoint : PointCfg := { kind := .volt, source := .field 61 3, curve := none, staleLimit := 1, mirror := true }

/-- The plant with node 62 LOST. -/
def nodeDown : State := plant.setNode 61 { state := .lost, count := 3, reason := some .silent }

theorem test_witness_PointLoadsMakeAFreshPoint :
    Loads .point 31 (load .point 31 (pointCfgBytes farPoint) plant) (pointCfgBytes farPoint) 7 [] ∧
      PointUsed (load .point 4 (pointCfgBytes farPoint) fixerRunning) 4 ∧
      ¬ PointUsed (load .point 31 (pointCfgBytes farPoint) plant) 31 ∧
      pointBody (List.replicate 12 6) = .bad ∧ pointBody (List.replicate 12 0) = .unload ∧
      pointBody (pointCfgBytes farPoint) = .content farPoint ∧
      ((load .point 31 (pointCfgBytes farPoint) plant).node 61).state ≠ .lost ∧
      ((load .point 31 (pointCfgBytes farPoint) nodeDown).node 61).state = .lost :=
  ⟨loads_load _ _ _ _ free_plant (by decide), by simp only [← pointInService_iff]; decide⟩

def curveRecord (c : Curve) : List Byte := be 1 c.length ++ c.flatMap fun b => rawBytes b.1 ++ be 3 b.2
def scanRecord (p period : Nat) : List Byte := be 1 1 ++ be 1 p ++ be 2 period
def interlockRecord (e : Interlock) : List Byte := be 1 1 ++ interlockBytes e
def openGate : Interlock := { node := 0, channel := 3, cond := .tankNotReleasing 3, max := 1000 }

/-- The plant with P4 and P16 on the scan list. -/
def scanned : State :=
  plant |>.setScanEntry 0 { slot := some (4, 100) } |>.setScanEntry 47 { slot := some (16, 1) }

theorem test_witness_SmallTableLoads :
    (Loads .curve 7 (load .curve 7 (curveRecord phCurve) plant) (curveRecord phCurve) 7 [] ∧
      Loads .scan 47 (load .scan 47 (scanRecord 16 36000) plant) (scanRecord 16 36000) 7 [] ∧
      Loads .interlock 23 (load .interlock 23 (interlockRecord openGate) plant) (interlockRecord openGate) 7 [] ∧
      Loads .classmap 20 (load .classmap 20 [1, 3] plant) [1, 3] 7 []) ∧
      (∀ n ch, ¬ OnField plant 5 n ch) ∧
      (CurveUsed (load .curve 2 [0] fixerRunning) 2 ∧ ¬ CurveUsed (load .curve 7 [0] plant) 7 ∧
        curveBody (List.replicate 6 1) = .bad ∧ curveBody [0] = .unload ∧ curveBody (curveRecord phCurve) = .content phCurve) ∧
      (scanBody (scanRecord 4 36001) = .bad ∧ scanBody (scanRecord 4 0) = .bad ∧ scanBody [0, 4, 0, 1] = .unload ∧
        scanBody (scanRecord 16 36000) = .content (16, 36000) ∧ scanBody (scanRecord 5 1) = .content (5, 1) ∧
        OnField scanned 16 19 0 ∧
        (scanned.scanEntry 47).slot = some (16, 1) ∧ (0 : ScanIx) ≠ 47 ∧
        ∀ j : ScanIx, j ≠ 47 → (scanned.scanEntry j).slot.all (·.1 ≠ 16) = true) ∧
      (interlockBody (List.replicate 8 2) = .bad ∧ interlockBody (List.replicate 8 0) = .unload ∧
        interlockBody (interlockRecord openGate) = .content openGate) ∧
      (classBody [1, 4] = .bad ∧ classBody [0, 4] = .unload ∧ classBody [1, 3] = .content 3) :=
  ⟨⟨loads_load _ _ _ _ free_plant (by decide), loads_load _ _ _ _ free_plant (by decide),
    loads_load _ _ _ _ free_plant (by decide), loads_load _ _ _ _ free_plant (by decide)⟩,
    fieldSource_none.mp (by decide), by simp only [← curveInService_iff, ← fieldSource_iff]; decide⟩

theorem test_witness_StreamLoadsTakeTheirClaims :
    Loads .stream 2 (load .stream 2 (streamCfgBytes fixerCfg) plant) (streamCfgBytes fixerCfg) 7 [] ∧
      (fixerRunning.stream 2).state ≠ .offline ∧ (plant.stream 15).state = .offline ∧
      streamBody (List.replicate 21 5) = .bad ∧ streamBody (List.replicate 21 0) = .unload ∧
      (plant.stream 15).cfg = none ∧ (plant.stream 2).cfg = some fixerCfg ∧
      streamBody (streamCfgBytes fixerCfg) = .content fixerCfg ∧
      WrongKind (plant.setPoint 4 (plant.point 18)) 4 .silver ∧ ¬ WrongKind plant 4 .silver ∧ ¬ WrongKind plant 5 .flow ∧
      OwnedElsewhere plant 3 (.stream 15) ∧ FlowTaken plant 5 (.stream 15) ∧ ¬ OwnedElsewhere plant 3 (.stream 2) ∧
      ¬ FlowTaken plant 5 (.stream 2) ∧ ¬ FlowTaken plant 21 (.stream 2) :=
  ⟨loads_load _ _ _ _ free_plant (by decide), by
    simp only [← wrongKind_iff, ← ownedByOther_iff, ← counterTaken_iff]; decide⟩

def actRecord (c : ActuatorCfg) : List Byte := bindingBytes c.binding ++ be 2 c.safe
def fieldBinding : ActuatorCfg := { binding := .field 61 3, safe := 1000 }
def pinBinding : ActuatorCfg := { binding := .pin 11, safe := 0 }

theorem test_witness_ActuatorLoadsSendTheSafeValue :
    Loads .actuator 15 (load .actuator 15 (actRecord fieldBinding) plant) (actRecord fieldBinding) 7 [] ∧
      OwnerUses fixerRunning 3 ∧ ¬ OwnerUses plant 15 ∧ ¬ OwnerUses plant 3 ∧
      actuatorBody (List.replicate 6 3) = .bad ∧ actuatorBody (List.replicate 6 0) = .unload ∧
      (plant.actuator 15).cfg = none ∧ (plant.actuator 3).cfg = some { binding := .field 13 1, safe := 1 } ∧
      actuatorBody (actRecord fieldBinding) = .content fieldBinding ∧
      actuatorBody (actRecord pinBinding) = .content pinBinding ∧
      (∃ b, b ≠ (15 : ActIx) ∧ ((plant.actuator b).cfg.map (·.binding)) = some (.field 13 1)) ∧
      (∀ b : ActIx, b ≠ 15 → (plant.actuator b).cfg.all (·.binding ≠ fieldBinding.binding) = true) ∧
      ∀ b : ActIx, b ≠ 15 → (plant.actuator b).cfg.all (·.binding ≠ pinBinding.binding) = true :=
  ⟨loads_load _ _ _ _ free_plant (by decide), by simp only [← ownerInService_iff]; decide⟩

def cellRecord (c : CellCfg) : List Byte := be 1 1 ++ cellCfgBytes c
def chainRecord (c : ChainCfg) : List Byte := be 1 1 ++ chainCfgBytes c

theorem test_witness_CellAndChainLoads :
    (Loads .cell 1 (load .cell 1 (cellRecord cellCfg1) plant) (cellRecord cellCfg1) 7 [] ∧
      Loads .chain 0 (load .chain 0 (chainRecord chainCfg0) plant) (chainRecord chainCfg0) 7 []) ∧
      ((cellRunning.cell 1).state ≠ .idle ∧ (plant.cell 3).state = .idle ∧ cellBody (List.replicate 24 2) = .bad ∧
        cellBody (List.replicate 24 0) = .unload ∧ (plant.cell 3).cfg = none ∧ (plant.cell 1).cfg = some cellCfg1 ∧
        cellBody (cellRecord cellCfg1) = .content cellCfg1 ∧
        WrongKind (plant.setPoint 16 (plant.point 18)) 16 .volt ∧ ¬ WrongKind plant 16 .volt) ∧
      (HasLead chainRunning 0 ∧ ¬ HasLead plant 0 ∧ chainBody (List.replicate 13 2) = .bad ∧
        chainBody (List.replicate 13 0) = .unload ∧ (plant.chain 3).cfg = none ∧ (plant.chain 0).cfg = some chainCfg0 ∧
        chainBody (chainRecord chainCfg0) = .content chainCfg0 ∧
        WrongKind (plant.setPoint 22 (plant.point 18)) 22 .silver ∧ ¬ WrongKind plant 22 .silver ∧
        OwnedElsewhere plant 12 (.chain 3) ∧ ¬ OwnedElsewhere plant 12 (.chain 0)) :=
  ⟨⟨loads_load _ _ _ _ free_plant (by decide), loads_load _ _ _ _ free_plant (by decide)⟩, by
    simp only [← wrongKind_iff, ← hasLead_iff, ← ownedByOther_iff]; decide⟩

def tankRecord (c : TankCfg) : List Byte := be 1 1 ++ tankCfgBytes c
def permitRecord (c : PermitCfg) : List Byte := be 1 1 ++ permitCfgBytes c
def lineRecord (c : LineParams) : List Byte := be 1 1 ++ lineBytes c

/-- T1 with two roles on one actuator. -/
def twoRoles : TankCfg := { tankCfg1 with drain := { act := 7, opened := 1000, closed := 0 } }

theorem test_witness_TankPermitAndLineLoads :
    (Loads .tank 1 (load .tank 1 (tankRecord tankCfg1) plant) (tankRecord tankCfg1) 7 [] ∧
      Loads .permit 0 (load .permit 0 (permitRecord permitCfg1) plant) (permitRecord permitCfg1) 7 [] ∧
      Loads .line 0 (load .line 0 (lineRecord defaultLine) plant) (lineRecord defaultLine) 7 []) ∧
      ((tankFilling.tank 1).state ≠ .idle ∧ (plant.tank 3).state = .idle ∧ tankBody (List.replicate 35 2) = .bad ∧
        tankBody (List.replicate 35 0) = .unload ∧ (plant.tank 3).cfg = none ∧ (plant.tank 1).cfg = some tankCfg1 ∧
        tankBody (tankRecord tankCfg1) = .content tankCfg1 ∧ tankBody (tankRecord twoRoles) = .content twoRoles ∧
        WrongKind (plant.setPoint 20 (plant.point 18)) 20 .ph ∧
        ((plant.setActuator 8 (fieldAct 39 1 1000)).actuator 8).cfg = some { binding := .field 39 1, safe := 1000 } ∧
        ¬ WrongKind plant 18 .level ∧ ¬ WrongKind plant 19 .silver ∧ ¬ WrongKind plant 20 .ph ∧ ¬ WrongKind plant 21 .flow ∧
        (plant.actuator 8).cfg.all (·.safe ≠ 1000) = true ∧
        ¬ [twoRoles.inlet.act, twoRoles.drain.act, twoRoles.rework.act].Nodup ∧
        OwnedElsewhere plant 7 (.tank 3) ∧ [tankCfg1.inlet.act, tankCfg1.drain.act, tankCfg1.rework.act].Nodup ∧
        (∀ a ∈ [tankCfg1.inlet.act, tankCfg1.drain.act, tankCfg1.rework.act], ¬ OwnedElsewhere plant a (.tank 1)) ∧
        FlowTaken (plant.setPoint 21 (counterPoint 0 250)) 21 (.tank 3) ∧ ¬ FlowTaken plant 21 (.tank 3)) ∧
      (releasingTank releasingPlant = some 1 ∧ releasingTank plant = none ∧ permitBody (List.replicate 27 2) = .bad ∧
        permitBody (List.replicate 27 0) = .unload ∧ permitBody (permitRecord permitCfg1) = .content permitCfg1 ∧
        WrongKind (plant.setPoint 25 (plant.point 18)) 25 .ph ∧ ¬ WrongKind plant 24 .silver ∧ ¬ WrongKind plant 25 .ph) ∧
      (lineBody (List.replicate 8 2) = .bad ∧ lineBody (List.replicate 8 0) = .unload ∧
        lineBody (lineRecord defaultLine) = .content defaultLine) :=
  ⟨⟨loads_load _ _ _ _ free_plant (by decide), loads_load _ _ _ _ free_plant (by decide),
    loads_load _ _ _ _ free_plant (by decide)⟩, by
    simp only [← wrongKind_iff, ← ownedByOther_iff, ← counterTaken_iff]; decide⟩

def counterRecord : List Byte := pinFnBytes (.counter 5 .both false)

/-- The plant whose pin L3, to which A1 is bound, is unmapped. -/
def pinGone : State := plant.setPin 3 {}

theorem unbound {s : State} {a : ActIx} {p : PinIx} (h : boundToPin p (s.actuator a) = false) (safe : Nat) :
    (s.actuator a).cfg ≠ some { binding := .pin p, safe := safe } := by
  intro h'; simp [boundToPin, h'] at h

theorem test_witness_PinMapLoadsMoveThePin :
    (Loads .pinmap 7 (load .pinmap 7 counterRecord plant) counterRecord 7 [] ∧
      pinBody (List.replicate 7 7) = .bad ∧ pinBody counterRecord = .content (.counter 5 .both false) ∧
      pinBody (List.replicate 7 0) = .unload) ∧
      (∀ a safe, (plant.actuator a).cfg ≠ some { binding := .pin 7, safe := safe }) ∧
      (∀ b : ActIx, b < 1 → ∀ safe, (plant.actuator b).cfg ≠ some { binding := .pin 3, safe := safe }) ∧
      ((plant.actuator 1).cfg = some { binding := .pin 3, safe := 0 } ∧ (pinGone.actuator 1).cfg = some { binding := .pin 3, safe := 0 } ∧
        (plant.pin 3).fn = .output false ∧ (pinGone.pin 3).fn = .unused) ∧
      (PinUsed fixerRunning 1 ∧ ¬ PinUsed plant 7 ∧ ¬ PinUsed plant 3 ∧ ¬ PinUsed pinGone 3) ∧
      (PinLacks 8 (.counter 5 .both false) ∧ PinLacks 7 (.counter 5 .both true) ∧ ¬ PinLacks 7 (.counter 4 .both true) ∧
        PinLacks 3 (.cellPwm 3 false) ∧ ¬ PinLacks 4 (.cellPwm 3 false) ∧ ¬ PinLacks 7 (.cellPwm 3 false) ∧
        PinLacks 8 (.cellPwm 3 false) ∧ PinLacks 7 .analog ∧ ¬ PinLacks 8 .analog ∧ ¬ PinLacks 3 .unused ∧
        ¬ PinLacks 3 (.output true)) :=
  ⟨⟨loads_load _ _ _ _ free_plant (by decide), by decide⟩, fun a => unbound (by revert a; decide),
    fun b h => unbound (by revert b; decide), by decide, by simp only [← pinInService_iff]; decide, by
    simp only [← pinFnBad_iff]; decide⟩

/-- R95: a counter that another pin has, one that would join a cascaded pair, a pair that would take one, and a cell twice. -/
theorem test_witness_PinMapLoadsMoveThePin_clashes :
    (PinClashes plant 7 (.counter 0 .both false) ∧ ¬ PinClashes plant 7 (.counter 5 .both false) ∧
      ¬ PinClashes plant 1 (.counter 0 .both true)) ∧
      (PinClashes (plant.setPin 1 { fn := .counter 2 .rising true }) 7 (.counter 3 .both false) ∧
        ¬ PinClashes (plant.setPin 1 { fn := .counter 2 .rising false }) 7 (.counter 3 .both false)) ∧
      PinClashes (plant.setPin 1 { fn := .counter 3 .rising false }) 7 (.counter 2 .both true) ∧
      (PinClashes plant 7 (.cellPwm 1 true) ∧ ¬ PinClashes plant 5 (.cellPwm 1 true)) ∧
      (¬ PinClashes plant 3 .unused ∧ ¬ PinClashes pinGone 3 (.output true)) := by
  have yes {s : State} {p : PinIx} {f : PinFn} (hb : pinFnBad p f = false) (h : pinFnConflict s p f = true) := (pinFnConflict_iff hb).mp h
  have no {s : State} {p : PinIx} {f : PinFn} (hb : pinFnBad p f = false) (h : ¬ pinFnConflict s p f = true) := mt (pinFnConflict_iff hb).mpr h
  exact ⟨⟨yes (by decide) (by decide), no (by decide) (by decide), no (by decide) (by decide)⟩,
    ⟨yes (by decide) (by decide), no (by decide) (by decide)⟩, yes (by decide) (by decide),
    ⟨yes (by decide) (by decide), no (by decide) (by decide)⟩, no (by decide) (by decide), no (by decide) (by decide)⟩

/-- R97: L3, an OUTPUT with its drive value set, is mapped anew: it stays OUTPUT and keeps the value, or becomes an INPUT. -/
theorem test_pin_map_loads :
    let s := plant.setPin 3 { fn := .output false, drive := true, level := true }
    let t (f : PinFn) := after .loadPinmap (load .pinmap 3 (pinFnBytes f) s)
    ((t (.output true)).pin 3).drive = true ∧ ((t (.input true 0)).pin 3).debounced = false ∧
      ((t (.input false 0)).pin 3).debounced = true ∧ ((t .unused).actuator 1).state = .failed ∧
      ((t .unused).actuator 1).confirmed = none ∧
      ((after .loadPinmap (load .pinmap 1 (pinFnBytes (.counter 0 .both true))
        ((plant.setCounter 0 7).setCounter 1 9))).counter 1) = 0 := by decide

/-! ### Commands -/

/-- The plant with every point GOOD, and its stream's silver point loaded of the wrong kind. -/
def misbound : State := plant.setPoint 4 (plant.point 18)

theorem test_witness_StreamsStartAndStop :
    Executing (ask .startStream [2] plant) (commandOf .startStream [BitVec.ofNat 8 2] 7) [] ∧
      Executing (ask .stopStream [15] plant) (commandOf .stopStream [BitVec.ofNat 8 15] 7) [] ∧
      (plant.stream 15).cfg = none ∧ (plant.stream 2).cfg = some fixerCfg ∧ (fixerRunning.stream 2).state ≠ .offline ∧
      (plant.stream 2).state = .offline ∧ ¬ OfKind misbound 4 .silver ∧
      (OfKind plant 4 .silver ∧ OfKind plant 5 .flow ∧ (plant.actuator 3).cfg ≠ none) ∧
      (OnCounter plant 5 0 250 ∧ counterMapped plant 0 = true ∧ counterValue plant 0 = 0 ∧ NoCounter plant 21) ∧
      FlowTaken (plant.setStream 15 { cfg := some fixerCfg }) 5 (.stream 2) ∧ ¬ FlowTaken plant 5 (.stream 2) :=
  ⟨executing_ask _ _ _ free_plant, executing_ask _ _ _ free_plant, by
    simp only [← isKind_iff, ← counterTaken_iff, ← counterSource_iff, ← counterSource_none]; decide⟩

/-- E1 in SAFE-HOLD. -/
def heldPlant : State := { plant with port := { plant.port with safeHold := true } }

theorem test_witness_CellCommandsMoveTheCell :
    Executing (ask .startCell [1] plant) (commandOf .startCell [BitVec.ofNat 8 1] 7) [] ∧
      Executing (ask .clearCell [3] plant) (commandOf .clearCell [BitVec.ofNat 8 3] 7) [] ∧
      (plant.cell 3).cfg = none ∧ (plant.cell 1).cfg = some cellCfg1 ∧ (cellRunning.cell 1).state = .run ∧
      (plant.cell 1).state = .idle ∧ heldPlant.port.safeHold = true ∧ plant.port.safeHold = false ∧
      ¬ OfKind (plant.setPoint 16 (plant.point 18)) 16 .volt ∧
      (OfKind plant 16 .volt ∧ (plant.pin 5).fn = .cellPwm 1 false) ∧
      ((plant.setCell 1 { cfg := some cellCfg1, state := .harvest }).cell 1).state = .harvest ∧
      ((plant.setCell 1 { cfg := some cellCfg1, state := .fault }).cell 1).state = .fault :=
  ⟨executing_ask _ _ _ free_plant, executing_ask _ _ _ free_plant, by simp only [← isKind_iff]; decide⟩

/-- The plant with a chain whose tail point is not a SILVER point. -/
def tailMisbound : State := plant.setPoint 22 (plant.point 18)

theorem test_witness_CartridgesAreInstalledAndRemoved :
    Executing (ask .installCartridge ([0, 1] ++ be 6 281474976710655) plant)
        (commandOf .installCartridge ([BitVec.ofNat 8 0, 1] ++ be 6 281474976710655) 7) [] ∧
      Executing (ask .removeCartridge [0, 2] plant) (commandOf .removeCartridge [BitVec.ofNat 8 0, 2] 7) [] ∧
      (plant.chain 3).cfg = none ∧ (plant.chain 0).cfg = some chainCfg0 ∧ ((0 : Byte) ≠ 1 ∧ (0 : Byte) ≠ 2) ∧
      ((3 : Byte) ≠ 1 ∧ (3 : Byte) ≠ 2) ∧ (posOf (chainRunning.chain 0) true).state = .lead ∧
      (posOf (chainRunning.chain 0) false).state = .lag ∧ (posOf (plant.chain 0) true).state = .empty ∧
      (posOf (plant.chain 0) false).state = .empty ∧ (plant.actuator 12).cfg ≠ none ∧
      ¬ OfKind tailMisbound 22 .silver ∧ OfKind plant 22 .silver :=
  ⟨executing_ask _ _ _ free_plant, executing_ask _ _ _ free_plant, by simp only [← isKind_iff]; decide⟩

/-- T1's points all bound: the checks of START_TANK pass on `plant`, and fail without a pH point. -/
theorem test_witness_TankCommandsMoveTheTank :
    Executing (ask .startTank [1] plant) (commandOf .startTank [BitVec.ofNat 8 1] 7) [] ∧
      Executing (ask .stopTank [3] plant) (commandOf .stopTank [BitVec.ofNat 8 3] 7) [] ∧
      Executing (ask .closeFill [0] plant) (commandOf .closeFill [BitVec.ofNat 8 0] 7) [] ∧
      (plant.tank 3).cfg = none ∧ (plant.tank 1).cfg = some tankCfg1 ∧ (plant.tank 1).state = .idle ∧
      (tankFilling.tank 1).state = .filling ∧ (releasingPlant.tank 1).state = .releasing ∧
      (tankReworking.tank 1).state = .rework ∧
      (OfKind plant 18 .level ∧ OfKind plant 19 .silver ∧ OfKind plant 20 .ph ∧ OfKind plant 21 .flow ∧
        (plant.actuator 7).cfg ≠ none ∧ (plant.actuator 9).cfg ≠ none ∧
        (plant.actuator 8).cfg = some { binding := .field 39 1, safe := 0 }) ∧
      ¬ OfKind (plant.setPoint 20 {}) 20 .ph ∧ ¬ FlowTaken plant 21 (.tank 1) ∧
      FlowTaken ((plant.setPoint 21 (counterPoint 0 250)).setTank 2 { cfg := some tankCfg1 }) 21 (.tank 1) ∧
      (let s := tankFilling.setPoint 18 (good (plant.point 18) 100)
       usable (s.point 18) = true ∧ (s.point 18).value ≤ tankCfg1.low) ∧
      ¬ (tankFilling.point 18).value ≤ tankCfg1.low ∧ tankCfg1.dwell ≠ 0 :=
  ⟨executing_ask _ _ _ free_plant, executing_ask _ _ _ free_plant, executing_ask _ _ _ free_plant, by
    simp only [← isKind_iff, ← counterTaken_iff]; decide⟩

/-- T1 with no mixing dwell. -/
theorem test_fill_without_dwell_goes_to_testing :
    let s := tankFilling.setTank 1 { tankFilling.tank 1 with cfg := some { tankCfg1 with dwell := 0 } }
    let t := after .closeFill (ask .closeFill [1] s)
    ((t.tank 1).state, (t.tank 1).test, (t.tank 1).batchNo) = (.testing, some 600000, 42) ∧ lastCode t = some .ok := by decide

/-- The plant at day 0 of its permit. -/
def firstDay : State :=
  { plant with disch := { plant.disch with permitDay := some 65535, clock := some { day := 0, sec := 21599 } } }

theorem test_witness_ClockAndMaskCommands :
    Executing (ask .setClock (be 2 65535 ++ be 3 86399) plant) (commandOf .setClock (be 2 65535 ++ be 3 86399) 7) [] ∧
      Executing (ask .maskClass [3] plant) (commandOf .maskClass [3] 7) [] ∧
      Executing (ask .unmaskClass [4] plant) (commandOf .unmaskClass [4] 7) [] ∧
      (86399 < 86400 ∧ 65535 < 65536 ∧ 16777215 < 16777216) ∧ plant.disch.permitDay = none ∧
      (firstDay.disch.permit = some permitCfg1 ∧ firstDay.disch.permitDay = some 65535) ∧
      (4 ≤ (4 : Byte).toNat ∧ (3 : Byte).toNat = (3 : Sys2Proof.Class).val) :=
  ⟨executing_ask _ _ _ free_plant, executing_ask _ _ _ free_plant, executing_ask _ _ _ free_plant, by decide⟩

/-- R169: the seconds on either side of the permit day's start. -/
theorem test_permit_day_turns_at_its_start :
    (after .setClock (ask .setClock (be 2 0 ++ be 3 21599) firstDay)).disch.permitDay = some 65535 ∧
      (after .setClock (ask .setClock (be 2 0 ++ be 3 21600) firstDay)).disch.permitDay = some 0 := by decide

/-- The plant with an interlock on channel 3 of node 62, whose condition holds; and one whose condition does not. -/
def gated (c : Cond) : State := plant.setInterlock 23 (some { node := 61, channel := 3, cond := c, max := 400 })

theorem test_witness_PassSetsAreCheckedAndQueued :
    Executing (ask .passSet ([62, 3] ++ be 2 1000) (gated .always)) (commandOf .passSet ([62, 3] ++ be 2 1000) 7) [] ∧
      ((62 : Byte).toNat = (61 : NodeIx).val + 1 ∧ (3 : Byte).toNat = (3 : Channel).val ∧ 62 < (63 : Byte).toNat ∧
        3 < (4 : Byte).toNat) ∧
      ((plant.actuator 3).cfg = some { binding := .field 13 1, safe := 1 } ∧
        ∀ a, ((gated .always).actuator a).cfg.all (·.binding ≠ .field 61 3) = true) ∧
      ((gated .always).port.fallback = false ∧ (gated .always).port.safeHold = false ∧
        heldPlant.port.safeHold = true ∧ (silent true plant).port.fallback = true) ∧
      ((gated .always).line.passQ.length < 4 ∧ 4 ≤ (gated .always).line.passQ.length + 4) ∧
      (Barred (gated (.cellRunning 1)) 61 3 ∧ ¬ Barred (gated .always) 61 3) ∧
      (PassesAs (gated .always) 61 3 400 400 ∧ PassesAs (gated .always) 61 3 401 400) :=
  ⟨executing_ask _ _ _ (by unfold free; decide), by decide, by decide, by decide, by decide,
    ⟨(interlockCheck_none (v := 0)).mp (by decide), mt (interlockCheck_none (v := 0)).mpr (by decide)⟩,
    (interlockCheck_some.mp (by decide : interlockCheck (gated .always) 61 3 400 = some (400, false))).1,
    (interlockCheck_some.mp (by decide : interlockCheck (gated .always) 61 3 401 = some (400, true))).1⟩

/-- R91: a value above the maximum is clamped to it; with four entries waiting a set is BUSY. -/
theorem test_pass_set_is_clamped_and_queue_is_bounded :
    (after .passSet (ask .passSet ([62, 3] ++ be 2 401) (gated .always))).line.passQ =
        [{ tag := 7, node := 61, channel := 3, value := 400, clamped := true }] ∧
      (after .passSet (ask .passSet ([62, 3] ++ be 2 401) (gated .always))).port.holding = false ∧
      (let e : PassEntry := { tag := 1, node := 0, channel := 0, value := 0, clamped := false }
       let s := { gated .always with line := { (gated .always).line with passQ := [e, e, e, e] } }
       lastCode (after .passSet (ask .passSet ([62, 3] ++ be 2 401) s)) = some .busy) := by decide

/-- A3, FIELD-bound and confirmed at 0, in each state. -/
def act3 (st : ActState) (desired : Nat) : State :=
  plant.setActuator 3 { fieldAct 13 1 1 with state := st, desired := desired }

/-- A transaction with channel 1 of node 14, which carries the value 1, in a phase; and the part whose line it holds. -/
def transaction (job : Job) (ph : Phase) (silents holdoffs : Nat) : Exchange :=
  { job := job, node := 13, channel := 1, value := 1, phase := ph, holdoffs := holdoffs, silents := silents, params := defaultLine }

def inFlight (job : Job) (ph : Phase) (silents holdoffs : Nat) (s : State) : State :=
  { s with line := { s.line with hold := .exchange (transaction job ph silents holdoffs) } }

theorem test_witness_AllSafeEntersSafeHold :
    Executing (ask .allSafe [] releasingPlant) (commandOf .allSafe [] 7) [] ∧
      (heldPlant.port.safeHold = true ∧ releasingPlant.port.safeHold = false ∧ releasingPlant.line.hold = .none) ∧
      ((plant.actuator 1).cfg = some { binding := .pin 3, safe := 0 } ∧ isOutput (plant.pin 3).fn = true ∧
        isOutput (pinGone.pin 3).fn = false) ∧
      ((plant.actuator 3).confirmed ≠ some 1 ∧ (plant.actuator 7).confirmed = some 0 ∧ (plant.actuator 7).state ≠ .inFlight) ∧
      ((cellRunning.cell 1).state = .run ∧ (plant.cell 1).state ≠ .run) ∧
      (releasingTank plant = none ∧ releasingTank releasingPlant = some 1) ∧
      ∀ job ∈ [Job.poll 0 4 false, .poll 0 4 true, .control 3 false, .control 3 true, .pass 9 true],
        ∀ ph ∈ [Phase.sending, .window, .resend, .holdoff],
          (inFlight job ph 0 0 releasingPlant).inReset = false ∧
            (inFlight job ph 0 0 releasingPlant).line.hold = .exchange (transaction job ph 0 0) :=
  ⟨executing_ask _ _ _ (by unfold free; decide), by decide⟩

/-- R71: what ALL_SAFE makes of a transaction in each of its phases. -/
theorem test_all_safe_abandons_by_phase :
    let hold (ph : Phase) := (after .allSafe (ask .allSafe [] (inFlight (.control 3 false) ph 0 0 plant))).line.hold
    hold .window = .quiet ∧ hold .holdoff = .none ∧ hold .resend = .none ∧
      hold .sending = (inFlight (.control 3 false) .sending 0 0 plant).line.hold := by decide

/-- R72, R69: the set in hand returns to the head of the control set queue; a pass-through in hand answers ABANDONED, before the HELD of one
that waits. -/
theorem test_all_safe_settles_the_transaction_in_hand :
    let e : PassEntry := { tag := 8, node := 61, channel := 3, value := 7, clamped := false }
    let s (job : Job) : State := inFlight job .window 0 0 { act3 .inFlight 1 with line := { plant.line with controlQ := [7], passQ := [e] } }
    let t (job : Job) := after .allSafe (ask .allSafe [] (s job))
    ((t (.control 3 false)).line.controlQ, ((t (.control 3 false)).actuator 3).state) = ([3, 7], .pending) ∧
      (t (.pass 9 false)).port.results.map (·.code) = [.abandoned, .held, .ok] ∧
      (t (.poll 0 4 false)).port.results.map (·.code) = [.held, .ok] ∧ ((t (.poll 0 4 false)).scanEntry 0).owed = true := by decide

theorem test_witness_ResumeKeepaliveAndResetPart :
    Executing (ask .resume [] heldPlant) (commandOf .resume [] 7) [] ∧
      Executing (ask .keepalive [] plant) (commandOf .keepalive [] 7) [] ∧
      Executing (ask .resetPart [] plant) (commandOf .resetPart [] 7) [] ∧
      (plant.port.fallback = false ∧ plant.port.safeHold = false ∧ heldPlant.port.safeHold = true ∧
        (silent true plant).port.fallback = true ∧ plant.port.silence = none ∧ (silent true plant).port.silence = some 0) :=
  ⟨executing_ask _ _ _ (by unfold free; decide), executing_ask _ _ _ free_plant, executing_ask _ _ _ free_plant, by decide⟩

theorem test_witness_OwnersMoveTheirActuators :
    (heldPlant.port.safeHold = true ∧ (plant.actuator 15).cfg = none) ∧
      (plant.port.safeHold = false ∧ (plant.actuator 1).cfg = some { binding := .pin 3, safe := 0 }) ∧
      (∀ st ∈ [ActState.idle, .pending, .inFlight, .refused, .failed],
        (act3 st 5).port.safeHold = false ∧ ((act3 st 5).actuator 3).cfg = some { binding := .field 13 1, safe := 1 } ∧
          ((act3 st 5).actuator 3).state = st ∧ ((act3 st 5).actuator 3).confirmed = some 0 ∧
          ((act3 st 5).actuator 3).confirmed ≠ some 5 ∧ ((act3 st 5).actuator 3).desired = 5 ∧
          ((act3 st 5).actuator 3).desired ≠ 6) ∧
      (plant.tank 1).cfg = some tankCfg1 := by decide

/-! ### The field line -/

/-- P4 is due at entry 0, with a control set and two pass-through sets waiting. -/
def busyLine (run : Nat) : State :=
  let e (v : Nat) : PassEntry := { tag := 1, node := 61, channel := 3, value := v, clamped := false }
  let s := (plant.setScanEntry 0 { slot := some (4, 100) }).setActuator 3 { fieldAct 13 1 1 with state := .pending, desired := 5 }
  { s with line := { s.line with controlQ := [3], passQ := [e 7, e 8], setRun := run } }

/-- The same with no control set, nothing due, and a gate on the pass-through's channel. -/
def passOnly (c : Cond) : State :=
  let e : PassEntry := { tag := 1, node := 61, channel := 3, value := 500, clamped := false }
  { gated c with line := { (gated c).line with passQ := [e] } }

theorem test_witness_SchedulerChoosesByPriority :
    ((inFlight (.poll 0 4 false) .window 0 0 plant).line.hold ≠ .none ∧ plant.line.hold = .none ∧
        State.reset.line.allSafePending = true ∧ plant.line.allSafePending = false) ∧
      (4 ≤ (busyLine 4).line.setRun ∧ FirstDue (busyLine 4) 0 ∧ ((busyLine 4).scanEntry 0).slot = some (4, 100) ∧
        OnField (busyLine 4) 4 8 0) ∧
      ((busyLine 3).line.controlQ = [3] ∧ (3 : ActIx) ∉ ([] : List ActIx) ∧
        ((busyLine 3).actuator 3).cfg = some { binding := .field 13 1, safe := 1 } ∧
        SetsFirst (busyLine 3) ∧ SetRunAfterSet (busyLine 3) 4 ∧ SetRunAfterSet (passOnly .always) 0) ∧
      ((passOnly .always).line.controlQ = [] ∧ SetsFirst (passOnly .always) ∧ ∀ i, ¬ Due (passOnly .always) i) ∧
      (plant.line.controlQ = [] ∧ plant.line.passQ = [] ∧ ∀ i, ¬ Due plant i) := by
  simp only [FirstDue, SetsFirst, SetRunAfterSet, ← isDue_iff, ← fieldSource_iff]; decide

theorem test_witness_SchedulerChoosesByPriority_interlocks :
    PassesAs (passOnly .always) 61 3 500 400 ∧ Barred (passOnly (.cellRunning 1)) 61 3 :=
  ⟨(interlockCheck_some.mp (by decide : interlockCheck (passOnly .always) 61 3 500 = some (400, true))).1,
    (interlockCheck_none (v := 0)).mp (by decide)⟩

/-- R63: the period itself makes an entry due; at a LOST node an entry waits 10 s. -/
theorem test_entry_is_due_at_its_period :
    let s (t : Nat) (st : NodeState) : State := (plant.setScanEntry 0 { slot := some (4, 5), since := some t }).setNode 8 { state := st }
    isDue (s 4 .online) 0 = false ∧ isDue (s 5 .online) 0 = true ∧ isDue (s 99 .lost) 0 = false ∧ isDue (s 100 .lost) 0 = true := by
  decide

/-- R68: the fairness exception, and the fourth set in a row before it. -/
theorem test_due_poll_follows_four_sets :
    (match (after .lineFree (busyLine 4)).line.hold with | .exchange x => x.job | _ => .pass 0 false) = .poll 0 4 false ∧
      (match (after .lineFree (busyLine 3)).line.hold with | .exchange x => x.job | _ => .pass 0 false) = .control 3 false ∧
      (after .lineFree (busyLine 3)).line.setRun = 4 ∧ (after .lineFree (busyLine 4)).line.setRun = 0 := by decide

theorem drains_nothing {s : State} {a : ActIx} (h : releasingTank s = none) : ¬ DrainsRelease s a := by
  rintro ⟨t, c, h', -⟩; simp [h] at h'

theorem drains_another {s : State} {a : ActIx} {t : TankIx} {c : TankCfg} (h : releasingTank s = some t)
    (hc : (s.tank t).cfg = some c) (ha : c.drain.act ≠ a) : ¬ DrainsRelease s a := by
  rintro ⟨t', c', h', hc', rfl⟩
  rw [h, Option.some.injEq] at h'; subst h'
  rw [hc, Option.some.injEq] at hc'; subst hc'
  exact ha rfl

def retrying (a : ActIx) (x : Actuator) : State :=
  plant.setActuator a { x with state := .failed, reason := .silent, retry := some 0 }

theorem test_witness_LineTimersAndPhases :
    (∀ ph ∈ [Phase.sending, .resend, .holdoff],
        (inFlight (.control 3 false) ph 1 2 plant).line.hold = .exchange (transaction (.control 3 false) ph 1 2)) ∧
      (inFlight (.poll 0 4 false) .sending 1 2 plant).line.hold = .exchange (transaction (.poll 0 4 false) .sending 1 2) ∧
      (transaction (.control 3 false) .sending 1 2).job = .control 3 false ∧
      ({ plant with line := { plant.line with hold := .allSafeSending } } : State).line.hold = .allSafeSending ∧
      ({ plant with line := { plant.line with hold := .quiet } } : State).line.hold = .quiet ∧
      (plant.inReset = false ∧ (plant.actuator 3).retry = none) ∧
      (((retrying 3 (fieldAct 13 1 1)).actuator 3).retry = some 0 ∧ ((retrying 3 (fieldAct 13 1 1)).actuator 3).state = .failed ∧
        ((retrying 3 (fieldAct 13 1 1)).actuator 3).confirmed = some ((retrying 3 (fieldAct 13 1 1)).actuator 3).desired) ∧
      (let x := (retrying 3 { fieldAct 13 1 1 with desired := 9 }).actuator 3
       x.confirmed ≠ some x.desired) ∧
      ((retrying 1 (pinAct 3)).actuator 1).cfg = some { binding := .pin 3, safe := 0 } ∧
      ¬ DrainsRelease (retrying 1 (pinAct 3)) 1 :=
  ⟨by decide, by decide, by decide, by decide, by decide, by decide, by decide, by decide, by decide, drains_nothing (by decide)⟩

theorem test_witness_ReadingsEndTheirPoll :
    (inFlight (.poll 0 4 false) .window 1 3 plant).line.hold = .exchange (transaction (.poll 0 4 false) .window 1 3) ∧
      (inFlight (.poll 0 4 false) .window 1 3 plant).inReset = false ∧ 65535 < 65536 ∧ 32767 < 32768 ∧ ¬ (32768 < 32768) := by decide

/-- R203: a READING of −1,900 is taken as a signed figure. -/
theorem test_reading_is_signed :
    let s := plant.setPoint 20 { cfg := some { kind := .ph, source := .field 13 1, curve := some 3, staleLimit := 5, mirror := false } }
    let t := after (.fieldReplyReceived (fieldFrame 14 2 1 63636 0)) (inFlight (.poll 0 20 false) .window 0 0 s)
    ((t.point 20).value, (t.point 20).quality, (t.point 20).lastRaw, (t.node 13).state) = (1400, .limited, -1900, .online) := by
  decide

theorem test_witness_SetsEndConfirmedOrRefused :
    (∀ job ∈ [Job.control 3 true, .control 3 false, .pass 9 true],
      (inFlight job .window 0 0 plant).line.hold = .exchange (transaction job .window 0 0) ∧
        (inFlight job .window 0 0 plant).inReset = false ∧ (transaction job .window 0 0).value ≤ 1000) ∧
      ((act3 .inFlight 1).actuator 3).desired = 1 ∧ ((act3 .inFlight 2).actuator 3).desired ≠ 1 ∧
      ¬ DrainsRelease (inFlight (.control 3 false) .window 0 0 plant) 3 ∧
      ¬ DrainsRelease (inFlight (.control 3 false) .window 0 0 releasingPlant) 3 :=
  ⟨by decide, by decide, by decide, drains_nothing (by decide),
    drains_another (t := 1) (c := tankCfg1) (by decide) (by decide) (by decide)⟩

theorem test_set_confirmed_and_refused :
    let s := inFlight (.control 3 false) .window 0 0 (act3 .inFlight 1)
    let t := after (.fieldReplyReceived (fieldFrame 14 4 1 1 0)) s
    let u := after (.fieldReplyReceived (fieldFrame 14 5 1 0 3)) s
    ((t.actuator 3).confirmed, (t.actuator 3).state, t.line.hold) = (some 1, .idle, .none) ∧
      ((u.actuator 3).confirmed, (u.actuator 3).state, (u.actuator 3).reason, (u.actuator 3).retry) =
        (some 0, .refused, .localMode, some 5000) := by decide

theorem test_witness_FailedTransactionsAreSettled :
    (∀ job ∈ [Job.poll 0 4 false, .control 3 true, .control 3 false, .pass 9 true],
      (inFlight job .window 1 3 plant).line.hold = .exchange (transaction job .window 1 3) ∧
        (inFlight job .window 0 2 plant).line.hold = .exchange (transaction job .window 0 2)) ∧
      ((transaction (.pass 9 true) .window 1 3).silents ≠ 0 ∧ 3 ≤ (transaction (.pass 9 true) .window 1 3).holdoffs ∧
        (transaction (.pass 9 true) .window 0 2).silents = 0 ∧ (transaction (.pass 9 true) .window 0 2).holdoffs < 3) ∧
      ¬ DrainsRelease (inFlight (.control 3 false) .window 1 3 plant) 3 :=
  ⟨by decide, by decide, drains_nothing (by decide)⟩

/-- R53: each of the seven conditions, and frames that meet them all. -/
theorem test_witness_FailedTransactionsAreSettled_frames :
    (∀ frame ∈ [[1], fieldFrame 14 2 1 5 0 ++ [0], [14, 2, 1, 0, 5, 0, 0], fieldFrame 15 2 1 5 0, fieldFrame 14 2 2 5 0,
        fieldFrame 14 4 1 1 0, fieldFrame 14 2 1 5 2, fieldFrame 14 6 1 1 0],
      NoReply (transaction (.poll 0 4 false) .window 1 3) frame) ∧
      (∀ frame ∈ [fieldFrame 14 2 1 5 0, fieldFrame 14 4 1 1001 0, fieldFrame 14 4 1 1 1, fieldFrame 14 5 1 0 0,
          fieldFrame 14 5 1 0 4, fieldFrame 14 5 1 1 1, fieldFrame 14 6 1 0 1, fieldFrame 14 4 1 2 0],
        NoReply (transaction (.control 3 false) .window 1 3) frame) ∧
      (∀ frame ∈ [fieldFrame 14 2 1 65535 1, fieldFrame 14 6 1 0 0], ¬ NoReply (transaction (.poll 0 4 false) .window 1 3) frame) ∧
      ∀ frame ∈ [fieldFrame 14 4 1 1 0, fieldFrame 14 5 1 0 1, fieldFrame 14 5 1 0 3, fieldFrame 14 6 1 0 0],
        ¬ NoReply (transaction (.control 3 false) .window 1 3) frame := by
  simp only [← replyIn_none]; decide

/-- R60, R40: the third failure in a row loses the node and fails its point. -/
theorem test_third_failure_loses_the_node :
    let s := (plant.setNode 13 { state := .suspect, count := 2, reason := some .silent }).setPoint 31 (fieldPoint .volt 13 1 none)
    let t := after .replyWindowClosed (inFlight (.poll 0 31 false) .window 1 0 s)
    (t.node 13).state = .lost ∧ (t.point 31).quality = .failed ∧
      (t.reports.entries.drop 1).map (·.report) =
        [.alert .nodeLost (.node 13) [1] none, .alert .pointFailed (.point 31) [2] none] := by decide

/-- T1 RELEASING, with the set of its drain actuator A8 in its reply window. -/
def drainSet : State :=
  inFlight (.control 8 false) .window 1 0
    (releasingPlant.setActuator 8 { fieldAct 13 1 0 with state := .inFlight, desired := 1 })

/-- T1 RELEASING, with its drain actuator A8 bound to pin L2 and about to be retried. -/
def pinDrain (f : PinFn) : State :=
  (releasingPlant.setPin 2 { fn := f }).setActuator 8 { pinAct 2 with state := .failed, desired := 1000, retry := some 0 }

theorem test_witness_DrainFailureStopsTheRelease :
    (drainSet.line.hold = .exchange (transaction (.control 8 false) .window 1 0) ∧ drainSet.inReset = false ∧
        releasingTank drainSet = some 1 ∧ (drainSet.tank 1).cfg = some tankCfg1 ∧ tankCfg1.drain.act = 8) ∧
      ((drainSet.actuator 8).desired = 1 ∧ (transaction (.control 8 false) .window 1 0).silents ≠ 0 ∧
        ((drainSet.setActuator 8 { drainSet.actuator 8 with desired := 0 }).actuator 8).desired ≠ 1 ∧
        3 ≤ (transaction (.control 8 false) .window 0 3).holdoffs) ∧
      (∀ f ∈ [PinFn.unused, .output true],
        (pinDrain f).inReset = false ∧ ((pinDrain f).actuator 8).retry = some 0 ∧ ((pinDrain f).actuator 8).state = .failed ∧
          ((pinDrain f).actuator 8).cfg = some { binding := .pin 2, safe := 0 } ∧ releasingTank (pinDrain f) = some 1 ∧
          ((pinDrain f).tank 1).cfg = some tankCfg1 ∧ isOutput ((pinDrain f).pin 2).fn = decide (f ≠ .unused)) ∧
      Loads .pinmap 2 (load .pinmap 2 counterRecord (pinDrain (.output true))) counterRecord 7 [] :=
  ⟨by decide, by decide, by decide, loads_load _ _ _ _ (by unfold free; decide) (by decide)⟩

/-- R179: each failure of the drain, with the cause DRAIN_FAILED coded 3. -/
theorem test_drain_failure_stops_the_release :
    let stopped (t : State) := ((t.tank 1).state, t.disch.queue, t.reports.entries.getLast?.map (·.report)) =
      (.queued, [1, 3], some (.alert .releaseStopped (.tank 1) [3, 42, 2800] releasingPlant.disch.clock))
    stopped (after (.fieldReplyReceived (fieldFrame 14 5 1 0 1)) drainSet) ∧
      stopped (after (.fieldReplyReceived (fieldFrame 14 5 1 0 2)) drainSet) ∧ stopped (after .replyWindowClosed drainSet) ∧
      stopped (after (.retryTimerExpiry 8) (pinDrain .unused)) ∧
      ((after (.retryTimerExpiry 8) (pinDrain (.output true))).tank 1).state = .releasing ∧
      lastCode (after .loadPinmap (load .pinmap 2 counterRecord (pinDrain (.output true)))) = some .busy := by decide

def settling : State := { act3 .pending 5 with line := { (act3 .pending 5).line with hold := .allSafeSettling, controlQ := [3] } }

theorem test_witness_AllSafeConfirmsTheFieldActuators :
    settling.line.hold = .allSafeSettling ∧
      ({ plant with line := { plant.line with hold := .allSafeSending } } : State).line.hold = .allSafeSending ∧
      (settling.actuator 3).cfg = some { binding := .field 13 1, safe := 1 } ∧ (settling.actuator 3).desired ≠ 1 ∧
      (settling.actuator 7).desired = 0 ∧ (settling.actuator 7).state = .idle ∧
      (settling.actuator 1).cfg = some { binding := .pin 3, safe := 0 } ∧ (settling.actuator 15).cfg = none := by decide

/-! ### Streams -/

theorem test_witness_StreamsKeepTheirAccounts :
    ((plant.stream 15).cfg = none ∧ (plant.stream 2).state = .offline) ∧
      ((fixerRunning.stream 2).cfg = some fixerCfg ∧ (fixerRunning.stream 2).state ≠ .offline ∧
        usable (fixerRunning.point 4) = true ∧ usable (plant.point 4) = false) ∧
      (OnCounter fixerRunning 5 0 250 ∧ counterMapped fixerRunning 0 = true) ∧
      (OnCounter (fixerRunning.setPin 1 {}) 5 0 250 ∧ counterMapped (fixerRunning.setPin 1 {}) 0 = false) ∧
      NoCounter (fixerRunning.setPoint 5 (good (fieldPoint .flow 20 0 none) 93)) 5 := by
  simp only [← counterSource_iff, ← counterSource_none]; decide

/-- R16: the mass stops at its bound and the stream is marked saturated. -/
theorem test_mass_stops_at_its_bound :
    let s := fixerRunning.setStream 2 { fixerRunning.stream 2 with mass := 281474976710655 - 517 }
    let x := (stepStream 2 s).stream 2
    (x.mass, x.saturated) = (281474976710655, true) := by decide

theorem test_witness_RateEstimateReachesItsInput :
    (16777215 ≤ 16777215 ∧ 7 ≤ 7) ∧ nextRate 0 16777216 0 = 16777215 ∧ nextRate 16777215 0 7 = 16646144 ∧
      nextRate 5 4 7 = 4 ∧ nextRate 4 5 7 = 5 ∧ nextRate 5 5 7 = 5 ∧
      ((fixerRunning.stream 2).cfg = some fixerCfg ∧ (fixerRunning.stream 2).state ≠ .offline) ∧
      ((startStream 2 plant).2.stream 2).state ≠ (plant.stream 2).state ∧
      ((stopStream 2 fixerRunning).2.stream 2).state ≠ (fixerRunning.stream 2).state := by decide

def routed (confirmed : Option Nat) : State := fixerRunning.setActuator 3 { fieldAct 13 1 1 with confirmed := confirmed }

theorem test_witness_EachStepCreditsOneAccount :
    ((routed (some 1)).actuator 3).confirmed = some fixerCfg.primaryPos ∧
      (((routed (some 2)).actuator 3).confirmed ≠ some fixerCfg.primaryPos ∧
        ((routed (some 2)).actuator 3).confirmed = some fixerCfg.divertPos ∧ fixerCfg.divert = some (.chain 0)) ∧
      (((routed none).actuator 3).confirmed ≠ some fixerCfg.primaryPos ∧
        ((routed none).actuator 3).confirmed ≠ some fixerCfg.divertPos) ∧
      ((chainRunning.chain 0).posA.state = .lead ∧ (plant.chain 0).posA.state ≠ .lead ∧ (plant.chain 0).posB.state ≠ .lead) ∧
      ((plant.setChain 0 { posB := { state := .lead } }).chain 0).posB.state = .lead ∧ calm.disch.permit = none ∧
      (releasingPlant.disch.permit = some permitCfg1 ∧ min (releasingPlant.disch.consumed + 399) 281474976710655 < permitCfg1.cap ∧
        permitCfg1.cap ≤ min (releasingPlant.disch.consumed + 400) 281474976710655) := by decide

/-- R170, R179: a DRAIN credit below the cap is counted; the one that reaches it stops the release with cause BUDGET. -/
theorem test_drain_credit_stops_the_release_at_the_cap :
    let t (m : Nat) := creditDest .drain m 1 releasingPlant
    ((t 399).disch.consumed, ((t 399).tank 1).state) = (1999999, .releasing) ∧
      ((t 400).disch.consumed, ((t 400).tank 1).state, (t 400).disch.queue) = (2000000, .queued, [1, 3]) := by decide

/-- S2 in a state, with and without its cell and its chain accepting. -/
def routing (st : StreamState) (cell chain : Bool) (time : Nat) : State :=
  fixerRunning
    |>.setStream 2 { cfg := some fixerCfg, state := st, divertedTime := time }
    |>.setCell 1 { cfg := some cellCfg1, state := if cell then .run else .idle }
    |>.setChain 0 { cfg := some chainCfg0, posA := { state := if chain then .lead else .empty } }

theorem test_witness_RoutingSettlesTheStream :
    (∀ cell chain : Bool, ∀ st ∈ [StreamState.active, .diverted, .fault],
      ((routing st cell chain 59).stream 2).state = st ∧
        (Accepting (routing st cell chain 59) fixerCfg.primary ↔ cell = true) ∧
        (Accepting (routing st cell chain 59) (.chain 0) ↔ chain = true)) ∧
      fixerCfg.divert = some (.chain 0) ∧ fixerCfg.minDivert ≤ min (59 + 1) 3600 ∧ ¬ fixerCfg.minDivert ≤ min (58 + 1) 3600 := by
  simp only [← accepts_iff]; decide

/-! ### Points and pins -/

theorem test_witness_PointsAgeAndAreSampled :
    plant.inReset = false ∧
      (let s := plant |>.setPoint 28 { cfg := some { kind := .ph, source := .analog 9, curve := some 3, staleLimit := 5, mirror := false } }
                |>.setPoint 27 { cfg := some { kind := .level, source := .switch 0, curve := none, staleLimit := 5, mirror := false } }
                |>.setPoint 29 { cfg := some { kind := .ph, source := .analog 8, curve := none, staleLimit := 5, mirror := false } }
                |>.setPoint 30 (counterPoint 1 1)
       (s.point 28).cfg.isSome = true ∧ (s.pin 9).fn = .analog ∧ (s.pin 8).fn ≠ .analog ∧ (s.pin 0).fn = .input true 40 ∧
         counterMapped s 1 = false ∧ counterMapped s 0 = true) ∧
      ((plant.point 4).quality ≠ .failed ∧ ((plant.setPoint 4 { plant.point 4 with quality := .failed }).point 4).quality = .failed) ∧
      ((∀ c ∈ [(⟨0, 1⟩ : Conversion), ⟨1, 1⟩, ⟨5, 3⟩, ⟨0, 1⟩], 0 < c.reference) ∧ (plant.pin 9).fn = .analog ∧ (plant.pin 8).fn ≠ .analog) := by decide

/-- R102: 0 at 0 V, 4095 at the reference and above it, and between them the fraction times 4096, truncated. -/
theorem test_conversion_of_the_input :
    let sample (reference v : Nat) := ((after (.analogSamplingRound ⟨0, 1⟩ ⟨v, reference⟩ ⟨0, 1⟩ ⟨0, 1⟩) plant).pin 9).sample
    [sample 3000 0, sample 3000 1500, sample 3000 2999, sample 3000 3000, sample 3000 3001, sample 5000 1] =
      [0, 2048, 4094, 4095, 4095, 0] := by decide

/-- R42: a counter's value is rounded half up, and LIMITED above 16,777,215. -/
theorem test_counter_value_of_a_point :
    let value (n k : Nat) := ((handCounter 5 n k plant).point 5).value
    [value 1 49, value 1 50, value 3 150, value 37 250] = [0, 1, 5, 93] ∧
      ((handCounter 5 25601 65535 plant).point 5).quality = .limited ∧ ((handCounter 5 1 1 plant).point 5).quality = .good := by decide

/-- R38: the limit itself is not above the limit. -/
theorem test_point_goes_stale_above_its_limit :
    let aged (n : Nat) := (after .ageTimerExpiry (plant.setPoint 4 { good (plant.point 4) 5 with age := n })).point 4
    ((aged 29).quality, (aged 29).age) = (Quality.good, 30) ∧ ((aged 30).quality, (aged 30).age) = (.stale, 31) := by decide

theorem test_witness_ReadingsReachTheirPoint :
    ¬ OnField plant 5 8 0 ∧ OnField plant 4 8 0 ∧
      (plant.point 4).cfg = some { kind := .silver, source := .field 8 0, curve := some 2, staleLimit := 30, mirror := false } ∧
      (plant.setCurve 2 []).curve 2 = [] ∧ plant.curve 2 ≠ [] ∧ (plant.point 19).cfg.map (·.curve) = some none := by
  simp only [← fieldSource_iff]; decide

theorem test_witness_CurvesConvertRawReadings :
    CurveInRange phCurve ∧ -2001 < (-2000 : Int) ∧ (1000 : Int) < 1001 ∧ (-1000, 1000) ∈ phCurve ∧
      phCurve = [(-2000, 1500)] ++ ((-1000, 1000) :: (1000, 400) :: []) ∧ (-1000 : Int) < -999 ∧ (999 : Int) < 1000 ∧
      kindMax .ph < 1401 ∧ 1400 ≤ kindMax .ph := by
  unfold CurveInRange; decide

theorem test_witness_PinsFollowTheirEvents :
    ((plant.setPin 0 { fn := .input false 0 }).pin 0).fn = .input false 0 ∧ (plant.pin 0).fn = .input true 40 ∧ (40 : Nat) ≠ 0 ∧
      (plant.pin 3).fn = .output false ∧ ((plant.setPin 0 { fn := .input true 40, debounce := some 0 }).pin 0).debounce = some 0 ∧
      (plant.pin 1).fn = .counter 0 .rising false ∧ ((plant.setCounter 0 65535).counter 0 = 65535) ∧ oddPartner 0 ≠ 0 ∧
      (plant.cell 1).cfg = some cellCfg1 ∧ 1023 ≤ 1023 ∧ 3 < 4 ∧
      ((plant.setPin 5 { fn := .cellPwm 1 true }).pin 5).fn = .cellPwm 1 true ∧
      ((plant.setPin 5 { fn := .output true }).pin 5).fn = .output true := by decide

/-- The pin map's cascade on counter 2. -/
def paired : State := plant.setPin 0 { fn := .counter 2 .rising true }

/-- The counter of a pin, with its cascade flag. -/
def countsOn : PinFn → Option (CounterIx × Bool)
  | .counter q _ c => some (q, c)
  | _ => none

theorem test_witness_PinsFollowTheirEvents_counters :
    (Mapped plant 0 ∧ ¬ Mapped plant 5 ∧ ¬ Cascaded plant 0) ∧ Cascaded paired 2 ∧
      ((2 : CounterIx).val % 2 = 0 ∧ (3 : CounterIx).val = (2 : CounterIx).val + 1) := by
  have pins : ∀ l, countsOn (plant.pin l).fn = if l = 1 then some (0, false) else none := by decide
  have one {l : PinIx} {q : CounterIx} {edge : Edge} {c : Bool} (h : (plant.pin l).fn = .counter q edge c) :
      l = 1 ∧ q = 0 ∧ c = false := by
    have hp := pins l
    rw [h] at hp
    by_cases hl : l = 1 <;> simp_all [countsOn]
  have on : MappedOn plant 1 0 false := by
    refine ⟨⟨.rising, by decide⟩, fun m edge c hm h => ?_⟩
    rw [(one h).1] at hm
    exact absurd hm (by decide)
  have unpaired (h : Cascaded plant 0) : False := by
    obtain ⟨l, ⟨_, hl⟩, -⟩ := h
    exact absurd (one hl).2.2 (by decide)
  refine ⟨⟨⟨⟨1, false, on⟩, fun h => absurd h.1 (by decide)⟩, ?_, unpaired⟩, ⟨0, ⟨.rising, by decide⟩, ?_⟩, by decide⟩
  · rintro ⟨⟨l, c, ⟨_, hl⟩, -⟩, -⟩
    exact absurd (one hl).2.1 (by decide)
  · intro m _ _ hm
    exact absurd hm (Fin.not_lt_zero _)

/-! ### Reports -/

/-- A full queue: 31 NODE_BACK of class 2 and one NODE_LOST of class 1. -/
def fullQueue : ReportQueue :=
  { plant.reports with
    entries := (List.finRange 31).map (fun i => alertEntry .nodeBack (.node ⟨i.val, by omega⟩) 2) ++ [alertEntry .nodeLost (.node 0) 1] }

theorem test_witness_ReportsCoalesceOrAreAdmitted :
    32 ≤ fullQueue.entries.length ∧ plant.reports.entries.length < 32 ∧
      (alertKey (.alert .nodeLost (.node 0) [2] none)).isSome = true ∧
      alertKey (alertEntry .nodeLost (.node 0) 1).report = alertKey (.alert .nodeLost (.node 0) [2] none) ∧
      (∀ x ∈ fullQueue.entries.take 31, alertKey x.report ≠ alertKey (.alert .nodeLost (.node 0) [2] none)) ∧
      (∀ e ∈ fullQueue.entries, alertKey e.report ≠ alertKey (.alert .nodeLost (.node 1) [1] none)) ∧
      fullQueue.classMap[kindIx .nodeLost] < 2 ∧ (∀ x ∈ fullQueue.entries, x.cls ≤ 2) ∧
      (∀ e ∈ fullQueue.entries, alertKey e.report ≠ alertKey (.alert .nodeBack (.node 40) [1] none)) ∧
      ∀ x ∈ fullQueue.entries, x.cls ≤ fullQueue.classMap[kindIx .nodeBack] := by decide

/-- R187: the oldest report of class 2 makes room for NODE_LOST, and another NODE_BACK is dropped. -/
theorem test_full_queue_displaces_or_drops :
    let q := fullQueue.raise (.alert .nodeLost (.node 1) [1] none)
    let r := fullQueue.raise (.alert .nodeBack (.node 40) [1] none)
    (q.entries.length, q.gap, q.entries.head?.map (·.report), r.gap) =
        (32, true, some (.alert .nodeBack (.node 1) [] none), true) ∧ r.entries = fullQueue.entries := by decide

/-! ### Cells and chains -/

/-- E1 RUN with a voltage reading, a fold-back level, a high count and a miss count. -/
def sensing (q : Quality) (v fold high miss : Nat) : State :=
  (cellRunning.setPoint 16 { plant.point 16 with value := v, quality := q }).setCell 1
    { cellRunning.cell 1 with fold := fold, high := high, miss := miss }

theorem test_witness_RegulationDrivesOrFaultsTheCell :
    ((cellRunning.cell 1).cfg = some cellCfg1 ∧ (cellRunning.cell 1).state = .run ∧ (cellRunning.cell 1).regTimer = some 0) ∧
      (∀ v ∈ [2649, 2650, 2800, 2801],
        usable ((sensing .stale v 0 0 0).point 16) = true ∧ ((sensing .stale v 0 0 0).point 16).value = v) ∧
      ¬ usable ((sensing .failed 0 0 0 0).point 16) = true := by decide

/-- R122: the deepest fold-back, the tenth high count and the third miss. -/
theorem test_fold_back_and_faults :
    let x (s : State) := (after (.regulationTimerExpiry 1) s).cell 1
    ((x (sensing .good 2801 5 0 0)).fold, (x (sensing .good 2801 6 8 2)).high, (x (sensing .good 2801 6 8 2)).miss) = (6, 9, 0) ∧
      ((x (sensing .good 2801 6 9 0)).state, (x (sensing .good 2801 6 9 0)).fault, (x (sensing .good 2801 6 9 0)).high) =
        (.fault, .sulfideRisk, 10) ∧
      ((x (sensing .failed 0 1 0 1)).state, (x (sensing .failed 0 1 0 1)).miss) = (.run, 2) ∧
      ((x (sensing .failed 0 1 0 2)).state, (x (sensing .failed 0 1 0 2)).fault, (x (sensing .failed 0 1 0 2)).pendingDuty) =
        (.fault, .senseLost, 0) := by decide

theorem test_witness_TargetCurrentFollowsTheInflow :
    CellCfg.InRange cellCfg1 ∧ (2 * (0 * 1018) + 1024) / 2048 < 500 ∧ 20000 < (2 * (16777215 * 1018) + 1024) / 2048 ∧
      (2 * (1814 * 1018) + 1024) / 2048 = 1803 ∧
      (∀ i : StreamIx, i ≠ 2 → i ≠ 6 → ¬ CreditedTo 1 (cellRunning.stream i)) ∧ ¬ CreditedTo 1 {} ∧
      CreditedTo 1 (cellRunning.stream 2) ∧
      (cellRunning.stream 2).cfg = some fixerCfg ∧ (cellRunning.stream 2).credited = .primary ∧ fixerCfg.primary = .cell 1 ∧
      ∀ i, ¬ CreditedTo 0 (cellRunning.stream i) := by
  simp only [← creditsCell_iff]; unfold CellCfg.InRange; decide

theorem test_witness_ChainMeteringSpendsTheLead :
    ((plant.chain 0).cfg = some chainCfg0 ∧ (plant.chain 0).metering = some 1000 ∧ ¬ HasLead plant 0) ∧
      ((chainRunning.chain 0).cfg = some chainCfg0 ∧ (chainRunning.chain 0).metering = some 0 ∧
        (posOf (chainRunning.chain 0) true).state = .lead ∧ (posOf (chainRunning.chain 0) false).state ≠ .lead ∧
        (posOf (chainRunning.chain 0) false).state = .lag) ∧
      usable (chainRunning.point 22) = true ∧ chainCfg0.count ≤ runAfterMetering chainCfg0 (some 700) 2 ∧
      ¬ chainCfg0.count ≤ runAfterMetering chainCfg0 (some 500) 2 ∧ ¬ chainCfg0.count ≤ runAfterMetering chainCfg0 (some 501) 1 ∧
      ¬ 50000000 * chainCfg0.swap ≤ 44999999 * 1000 ∧ 50000000 * chainCfg0.swap ≤ 45000000 * 1000 := by
  simp only [← hasLead_iff]; decide

/-! ### Tanks -/

theorem test_witness_TankMeteringFollowsTheState :
    ((plant.tank 1).cfg = some tankCfg1 ∧ (plant.tank 1).metering = some 1000 ∧ (plant.tank 1).state = .idle) ∧
      ((tankFilling.tank 1).state = .filling ∧ usable (tankFilling.point 18) = true ∧
        tankCfg1.high ≤ (tankFilling.point 18).value ∧ (tankFilling.tank 1).metering = some 0) ∧
      ((tankReworking.tank 1).state = .rework ∧ (tankReworking.tank 1).metering = some 0) ∧
      (let s := tankTesting.setTank 1 { tankTesting.tank 1 with deferred := true }
       (s.tank 1).state = .testing ∧ (s.tank 1).deferred = true ∧ usable (s.point 18) = true) ∧
      (let s := tankTesting.setTank 1 { tankTesting.tank 1 with state := .mixing, dwell := some 0 }
       (s.tank 1).state = .mixing ∧ (s.tank 1).dwell = some 0) ∧
      (let out := reworkOutflow 1 tankCfg1 tankReworking
       ¬ (out.point 18).value ≤ tankCfg1.low ∧ reworkPaused out tankCfg1 = (out.tank 1).paused) ∧
      (let out := reworkOutflow 1 tankCfg1 (tankReworking.setChain 0 { cfg := some chainCfg0 })
       reworkPaused out tankCfg1 = true ∧ (out.tank 1).paused = false ∧ (out.tank 1).state = .rework) ∧
      (let out := reworkOutflow 1 tankCfg1 (tankReworking.setTank 1 { tankReworking.tank 1 with paused := true })
       reworkPaused out tankCfg1 = false ∧ (out.tank 1).paused = true) ∧
      (let s := tankReworking.setPoint 18 (good (plant.point 18) 100)
       usable (s.point 18) = true ∧ (s.point 18).value ≤ tankCfg1.low) := by decide

theorem test_witness_ReworkEntersMetersAndEnds :
    (tankReworking.tank 1).cfg = some tankCfg1 ∧ (tankReworking.tank 1).batch.isSome = true ∧
      (NoCounter tankReworking 21 ∧ usable (tankReworking.point 21) = true ∧ usable (plant.point 21) = false) ∧
      (let s := tankReworking.setPoint 21 (counterPoint 0 250)
       OnCounter s 21 0 250 ∧ counterMapped s 0 = true ∧ (s.tank 1).state = .rework ∧ counterMapped (s.setPin 1 {}) 0 = false) ∧
      Accepting tankReworking (.chain 0) ∧ ¬ Accepting plant (.chain 0) := by
  simp only [← counterSource_iff, ← counterSource_none, ← accepts_iff]; decide

/-- R157: T1 TESTING, short of one reading of each kind. -/
def tankSampling : State := tankFilling.setTank 1 { tankTesting.tank 1 with silverSamples := 2, phSamples := 2 }

theorem test_witness_TestsDecideTheBatch :
    ((tankSampling.tank 1).cfg = some tankCfg1 ∧ (tankSampling.tank 1).batch.isSome = true ∧ (tankSampling.tank 1).state = .testing ∧
        (tankSampling.tank 1).silverSamples < tankCfg1.samples ∧ (tankSampling.tank 1).phSamples < tankCfg1.samples ∧
        tankCfg1.phPoint ≠ tankCfg1.silverPoint) ∧
      ((tankTesting.tank 1).silverSamples + 1 = tankCfg1.samples ∧ (tankTesting.tank 1).phSamples = tankCfg1.samples ∧
        usable (tankTesting.point 18) = true ∧ usable ((tankTesting.setPoint 18 (plant.point 18)).point 18) = false) ∧
      ((tankFilling.tank 1).state ≠ .testing ∧ tankCfg1.samples ≤ (tankTesting.tank 1).phSamples ∧
        tankTesting.disch.permit = some permitCfg1 ∧ calm.disch.permit = none) ∧
      (tankTesting.tank 1).test = some 230000 := by decide

/-! ### Discharge -/

theorem test_witness_DischargeTimerTakesItsParts :
    plant.disch.clock = none ∧ releasingPlant.disch.clock = some { day := 412, sec := 21594 } ∧ 412 ≤ 65535 ∧
      (let s := { releasingPlant with disch := { releasingPlant.disch with clock := some { day := 65535, sec := 86399 } } }
       (after .dischargeTimerExpiry s).disch.clock = some { day := 0, sec := 0 } ∧
         (after .dischargeTimerExpiry s).disch.permitDay = some 65535) := by decide

/-- 9.10: T0 is above the cap, T2 above the remaining budget. -/
def waiting : State :=
  let batch (t : TankIx) (n released : Nat) : Option Batch :=
    some { tank := t, number := 1, volume := 0, conc := 1000, estimate := n, released := released, fillMass := 0 }
  let s := releasingPlant.setTank 1 { releasingPlant.tank 1 with state := .filling }
  { s with disch := { s.disch with consumed := 1500000, queue := [0, 2, 3] } }
    |>.setTank 0 { cfg := some tankCfg1, state := .queued, batch := batch 0 2300000 0 }
    |>.setTank 2 { cfg := some tankCfg1, state := .queued, batch := batch 2 900000 250000 }

theorem test_witness_EvaluationReleasesTheHead :
    (calm.disch.queue = [] ∧ waiting.disch.queue = 0 :: [2, 3] ∧ waiting.disch.permit = some permitCfg1) ∧
      (permitCfg1.cap < 2300000 - 0 ∧ ¬ permitCfg1.cap < 900000 - 250000 ∧ ¬ 900000 - 250000 ≤ permitCfg1.cap - 1500000 ∧
        40000 - 0 ≤ permitCfg1.cap - 1500000) ∧
      ((waiting.tank 0).batch.map (fun b => b.estimate - b.released), (waiting.tank 2).batch.map (fun b => b.estimate - b.released),
        (waiting.tank 3).batch.map (fun b => b.estimate - b.released)) = (some 2300000, some 650000, some 40000) ∧
      (releasingTank waiting = none ∧ DrainOpen waiting ∧ ¬ DrainOpen plant ∧ NoCounter waiting 21 ∧
        OnCounter (waiting.setPoint 21 (counterPoint 0 250)) 21 0 250) ∧
      ((waiting.setActuator 5 (fieldAct 39 3 0)).actuator 5).cfg = some { binding := .field 39 3, safe := 0 } ∧
      (waiting.tank 3).cfg.map (·.drain.act) = some 5 ∧ (waiting.actuator 5).cfg = none ∧
      (let s := waiting.setActuator 5 (pinAct 3)
       (s.actuator 5).cfg = some { binding := .pin 3, safe := 0 } ∧ isOutput (s.pin 3).fn = true ∧
         isOutput ((s.setPin 3 {}).pin 3).fn = false) := by
  simp only [← drainAccepts_iff, ← counterSource_iff, ← counterSource_none]; decide

/-- R80, R179, log 24: T3's drain is bound to a pin: its release starts, or stops at once where the pin is not mapped OUTPUT. -/
theorem test_release_through_a_pin :
    let s := { waiting.setActuator 5 (pinAct 3) with disch := { waiting.disch with queue := [3] } }
    let t := evaluateQueue s
    let u := evaluateQueue (s.setPin 3 {})
    ((t.tank 3).state, (t.pin 3).drive, t.disch.queue) = (.releasing, true, []) ∧
      ((u.tank 3).state, u.disch.queue, (u.actuator 5).state) = (.queued, [3], .failed) ∧
      u.reports.entries.getLast?.map (·.report) =
        some (.alert .releaseStopped (.tank 3) [3, 7, 40000] waiting.disch.clock) := by decide

/-- 9.10. -/
theorem test_head_waits_for_the_budget :
    let t := evaluateQueue waiting
    (t.disch.queue, (t.tank 0).state, (t.tank 2).state, (t.tank 3).state, (t.tank 0).batch.map (·.cause)) =
      ([2, 3], .rework, .queued, .queued, some .overCap) := by decide

/-- T1 RELEASING through a counter of 250 per hundred pulses that stands at `n`, with the permit's silver point at `p`. -/
def metered (n : Nat) (p : PointIx) : State :=
  { (releasingPlant.setPoint 21 (counterPoint 0 250)).setCounter 0 (BitVec.ofNat 16 n) with
    disch := { releasingPlant.disch with permit := some { permitCfg1 with silverPoint := p } } }

theorem test_witness_ReleaseMeteringCompletesOrStops :
    releasingTank plant = none ∧
      (releasingTank releasingPlant = some 1 ∧ (releasingPlant.tank 1).cfg = some tankCfg1 ∧
        (releasingPlant.tank 1).batch.isSome = true ∧ NoCounter releasingPlant 21 ∧
        usable (releasingPlant.point 21) = true ∧ usable ((releasingPlant.setPoint 21 (plant.point 21)).point 21) = false) ∧
      (¬ (releasingPlant.point 18).value ≤ tankCfg1.low ∧ usable (releasingPlant.point 18) = true ∧
        ((releasingPlant.setPoint 18 (good (plant.point 18) 100)).point 18).value ≤ tankCfg1.low ∧
        releasingPlant.disch.permit = some permitCfg1 ∧ permitCfg1.cap ≤ 1999600 + 1200 ∧ ¬ permitCfg1.cap ≤ 1998799 + 1200) ∧
      (OnCounter (metered 480 24) 21 0 250 ∧ counterMapped (metered 480 24) 0 = true ∧
        counterMapped ((metered 480 24).setPin 1 {}) 0 = false) := by
  simp only [← counterSource_iff, ← counterSource_none]; decide

/-- R42, R44, R173: the value of a COUNTER outlet that is the permit's silver point raises the peak; above the cap it stops the release,
whose outflow is still delivered (log 37). -/
theorem test_counter_value_is_an_effluent_reading :
    let t := meterReleasing (metered 880 21)
    let u := meterReleasing (metered 2000 21)
    ((t.tank 1).state, t.disch.peak, (t.point 21).value) = (.queued, 2200, 2200) ∧
      ((u.tank 1).state, u.disch.peak, u.disch.consumed, (u.tank 1).batch.map (fun b => (b.cause, b.released))) =
        (.rework, 5000, 2004600, some (.effluent, 7200)) := by decide

/-- R161, R178: a COUNTER outlet whose pin is not mapped fails the point and stops the release. -/
theorem test_unmapped_outlet_stops_the_release :
    let t := meterReleasing ((metered 480 24).setPin 1 {})
    ((t.tank 1).state, (t.tank 1).outSnapshot, (t.point 21).quality) = (.queued, 0, .failed) ∧
      t.reports.entries.getLast?.map (·.report) =
        some (.alert .releaseStopped (.tank 1) [2, 42, 2800] releasingPlant.disch.clock) := by decide

theorem test_witness_ConsumptionAndStops :
    (calm.disch.permit = none ∧ plant.disch.permit = some permitCfg1 ∧ plant.disch.lowAlerted = false ∧ permitCfg1.lowPermille ≠ 0 ∧
        (2000000 - 1990001) * 1000 < 5 * 2000000 ∧ ¬ (2000000 - 1990000) * 1000 < 5 * 2000000) ∧
      (plant.disch.exhaustedAlerted = false ∧ permitCfg1.cap ≤ 2000000 ∧ ¬ permitCfg1.cap ≤ 1999999) ∧
      (releasingTank plant = none ∧ releasingTank releasingPlant = some 1 ∧ StopCause.safeHold ≠ .effluent ∧
        (releasingPlant.tank 1).batch.isSome = true) ∧
      (permitCfg1.silverPoint = 24 ∧ permitCfg1.phPoint ≠ 24 ∧ permitCfg1.concCap < 2501 ∧ permitCfg1.phPoint = 25 ∧
        permitCfg1.silverPoint ≠ 25 ∧ 599 < permitCfg1.phLow ∧ permitCfg1.phHigh < 951) ∧
      (permitCfg1.silverPoint ≠ 26 ∧ permitCfg1.phPoint ≠ 26 ∧ 2500 ≤ permitCfg1.concCap ∧ permitCfg1.phLow ≤ 600 ∧
        950 ≤ permitCfg1.phHigh) ∧
      (StopCause.budget, 1) ∈ [(StopCause.budget, 1), (.meterLost, 2), (.drainFailed, 3), (.fallback, 4), (.safeHold, 5)] ∧
      (tankCfg1.reworkDest = .chain 0 ∧ ¬ Accepting releasingPlant (.chain 0) ∧
        Accepting (releasingPlant.setChain 0 { plant.chain 0 with posA := { state := .lead } }) (.chain 0) ∧
        NoCounter releasingPlant 21 ∧ usable (releasingPlant.point 21) = true) := by
  simp only [← accepts_iff, ← counterSource_none]; decide

/-- R173: readings at the caps raise the peak and nothing more. -/
theorem test_effluent_within_the_caps :
    (effluentReading 24 2500 releasingPlant).disch.peak = 2500 ∧
      (effluentReading 24 2500 releasingPlant).reports = releasingPlant.reports ∧
      effluentReading 25 600 releasingPlant = releasingPlant ∧ effluentReading 26 9000 releasingPlant = releasingPlant := by decide

/-- R173: a breach of the pH band sends the RELEASING tank to REWORK. -/
theorem test_effluent_breach_stops_the_release :
    let t := effluentReading 25 951 releasingPlant
    ((t.tank 1).state, (t.tank 1).batch.map (·.cause), t.disch.queue) = (.rework, some .effluent, [3]) ∧
      (t.reports.entries.drop 1).map (·.report) =
        [.alert .effluentHigh (.point 25) [951, 3] (some { day := 412, sec := 21594 }),
          .alert .releaseStopped (.tank 1) [6, 42, 2800] (some { day := 412, sec := 21594 }),
          .alert .tankRework (.tank 1) [5, 42] (some { day := 412, sec := 21594 }),
          .batch .rework
            { tank := 1, number := 42, volume := 0, conc := 1000, estimate := 5000, released := 2200, fillMass := 0, cause := .effluent }
            (some { day := 412, sec := 21594 })] := by decide

/-! ### Invariants: states that meet them, other than the reset state -/

theorem test_witness_StepsKeepTheQueues :
    ReportsInv { plant with reports := { plant.reports with entries := fullQueue.entries.drop 1 } } ∧ RequestsInv (crowded 4 4) ∧
      PassInv (busyLine 4) := by
  unfold ReportsInv RequestsInv PassInv; decide

theorem test_witness_StepsKeepTheControlQueue : ControlInv (busyLine 4) := by
  refine ⟨by decide, ?_, ?_⟩
  · intro a ha
    have : a = 3 := by simpa [busyLine, State.setScanEntry, State.setActuator] using ha
    subst this
    exact ⟨by decide, 13, 1, 1, by decide⟩
  · intro x a h
    exact absurd h (by simp [busyLine, State.setScanEntry, State.setActuator, plant, plantPoints, calm, State.reset, State.setStream,
      State.setCell, State.setChain, State.setTank, State.setPoint, State.setPin, State.setCurve])

theorem test_witness_StepsKeepEveryCountInRange :
    LineInv nodeDown ∧ CellsInv cellRunning ∧ ChainsInv chainRunning ∧ ResiduesInv fixerRunning ∧ SumsInv fixerRunning := by
  refine ⟨⟨by decide, trivial, ?_⟩, ?_, ?_, ?_, ?_⟩
  · intro n
    by_cases h : n = 61
    · subst h; exact (by decide : (nodeDown.node 61).count = 3)
    · have : nodeDown.node n = {} := by revert n; decide
      rw [this]; exact rfl
  all_goals
    simp only [CellsInv, cellInv, ChainsInv, chainInv, ResiduesInv, streamResidues, tankResidues, chainResidues, SumsInv,
      streamSums, tankSums, chainSums, cellSums, accountSums]
    decide

theorem test_witness_StepsKeepTheReleaseQueue : ReleaseInv waiting ∧ ReleaseInv releasingPlant := by
  unfold ReleaseInv; decide

end Sys2Proof.Tests
end

section
/-! SUPPORT. No operation that an accounting step sets off outside its own stream touches a stream record: one simp lemma per
operation, from the delivery of a reading and of a credit down to the tank and release blocks that they reach. -/

namespace Sys2Proof.Machine

variable (s : State)

/-- The accessor of a stream reads the stream records alone. -/
theorem stream_congr {s t : State} (h : t.streams = s.streams) (i : StreamIx) : t.stream i = s.stream i := by
  simp [State.stream, h]

/-! ### Points -/

@[simp] theorem failPoint_streams (p : PointIx) (cause : FailCause) : (failPoint p cause s).streams = s.streams := by
  unfold failPoint; split <;> simp

@[simp] theorem handCounter_streams (p : PointIx) (n k : Nat) : (handCounter p n k s).streams = s.streams := by
  unfold handCounter; dsimp only; split <;> simp [storeReading, setRaw]

/-! ### Tanks -/

@[simp] theorem tankGo_streams (t : TankIx) (st : TankState) : (tankGo t st s).streams = s.streams := by simp [tankGo]

@[simp] theorem updBatch_streams (t : TankIx) (f : Batch → Batch) : (updBatch t f s).streams = s.streams := by
  simp [updBatch]

@[simp] theorem raiseBatch_streams (t : TankIx) (stage : BatchStage) : (raiseBatch t stage s).streams = s.streams := by
  unfold raiseBatch; split <;> simp

@[simp] theorem outletSnapshot_streams (t : TankIx) (c : TankCfg) : (outletSnapshot t c s).streams = s.streams := by
  simp [outletSnapshot]

@[simp] theorem reworkState_streams (t : TankIx) (cause : ReworkCause) : (reworkState t cause s).streams = s.streams := by
  unfold reworkState; split <;> simp

@[simp] theorem reworkReports_streams (t : TankIx) (cause : ReworkCause) :
    (reworkReports t cause s).streams = s.streams := by simp [reworkReports]

@[simp] theorem enterRework_streams (t : TankIx) (cause : ReworkCause) : (enterRework t cause s).streams = s.streams := by
  simp [enterRework]

@[simp] theorem toQueued_streams (t : TankIx) : (toQueued t s).streams = s.streams := by simp [toQueued]

@[simp] theorem beginDecision_streams (t : TankIx) (c : TankCfg) : (beginDecision t c s).streams = s.streams := by
  simp [beginDecision]

@[simp] theorem testDecision_streams (t : TankIx) (c : TankCfg) : (testDecision t c s).streams = s.streams := by
  unfold testDecision
  dsimp only
  split
  · simp
  · split <;> simp

@[simp] theorem countsComplete_streams (t : TankIx) (c : TankCfg) : (countsComplete t c s).streams = s.streams := by
  unfold countsComplete; split <;> simp

@[simp] theorem afterSample_streams (t : TankIx) (c : TankCfg) : (afterSample t c s).streams = s.streams := by
  unfold afterSample; split <;> simp

@[simp] theorem testSample_streams (p : PointIx) (v : Nat) (t : TankIx) : (testSample p v t s).streams = s.streams := by
  unfold testSample; repeat' split
  all_goals simp

@[simp] theorem testSamples_streams (p : PointIx) (v : Nat) : (testSamples p v s).streams = s.streams := by
  unfold testSamples
  generalize List.finRange 4 = ts
  induction ts generalizing s with
  | nil => rfl
  | cons t ts ih => simp [ih]

/-! ### Discharge -/

@[simp] theorem alertLow_streams : (alertLow s).streams = s.streams := by unfold alertLow; split <;> simp

@[simp] theorem alertExhausted_streams : (alertExhausted s).streams = s.streams := by
  unfold alertExhausted; split <;> simp

@[simp] theorem consume_streams (m : Nat) : (consume m s).streams = s.streams := by
  unfold consume; split <;> simp [budgetAlerts]

@[simp] theorem raiseStopped_streams (t : TankIx) (cause : StopCause) : (raiseStopped t cause s).streams = s.streams := by
  simp [raiseStopped]

@[simp] theorem requeue_streams (t : TankIx) : (requeue t s).streams = s.streams := by simp [requeue]

@[simp] theorem stopRelease_streams (cause : StopCause) : (stopRelease cause s).streams = s.streams := by
  unfold stopRelease
  split
  · rfl
  · cases cause <;> simp

@[simp] theorem deliverDrain_streams (m : Nat) : (deliverDrain m s).streams = s.streams := by
  unfold deliverDrain; dsimp only; split <;> simp

@[simp] theorem breakCaps_streams (p : PointIx) (v limit : Nat) : (breakCaps p v limit s).streams = s.streams := by
  simp [breakCaps]

@[simp] theorem effluentSilver_streams (c : PermitCfg) (p : PointIx) (v : Nat) :
    (effluentSilver c p v s).streams = s.streams := by
  unfold effluentSilver; dsimp only; split <;> simp

@[simp] theorem effluentPh_streams (c : PermitCfg) (p : PointIx) (v : Nat) : (effluentPh c p v s).streams = s.streams := by
  unfold effluentPh; repeat' split
  all_goals simp

@[simp] theorem effluentReading_streams (p : PointIx) (v : Nat) : (effluentReading p v s).streams = s.streams := by
  unfold effluentReading
  split
  · rfl
  · dsimp only; split <;> split <;> simp

@[simp] theorem handOn_streams (p : PointIx) (v : Nat) : (handOn p v s).streams = s.streams := by simp [handOn]

@[simp] theorem takeCounter_streams (p : PointIx) (n k : Nat) : (takeCounter p n k s).streams = s.streams := by
  simp [takeCounter]

/-! ### Credits -/

/-- R19 to R21: delivering a credit leaves every stream as it is. -/
@[simp] theorem creditDest_streams (d : Dest) (m v : Nat) : (creditDest d m v s).streams = s.streams := by
  cases d <;> simp [creditDest, creditChain, creditTank, creditReturn]

@[simp] theorem creditUnrouted_streams (m v : Nat) : (creditUnrouted m v s).streams = s.streams := by
  simp [creditUnrouted]

/-! ### Routing -/

@[simp] theorem routeAlert_streams (i : StreamIx) (c : StreamCfg) (old new : StreamState) :
    (routeAlert i c old new s).streams = s.streams := by
  unfold routeAlert
  split
  · rfl
  · cases new <;> simp

@[simp] theorem routeRequest_streams (c : StreamCfg) (st : StreamState) : (routeRequest c st s).streams = s.streams := by
  unfold routeRequest
  cases st <;> dsimp only
  all_goals split <;> simp

end Sys2Proof.Machine
end

section
/-! SUPPORT. What each part of an accounting step (R10) leaves in the record of its own stream. -/

namespace Sys2Proof.Machine

variable (s : State)

/-- R12, R13: the volume part changes at most the stream's volume residue and counter snapshot. -/
theorem streamVolume_stream (i : StreamIx) (c : StreamCfg) :
    ∃ residue snapshot,
      (streamVolume i c s).1.stream i = { s.stream i with volResidue := residue, snapshot := snapshot } := by
  unfold streamVolume
  dsimp only
  split
  · exact ⟨(s.stream i).volResidue, (s.stream i).snapshot, rfl⟩
  · split
    · exact ⟨_, _, (stream_congr (takeCounter_streams ..) i).trans (State.setStream_stream_self ..)⟩
    · exact ⟨(s.stream i).volResidue, 0, (stream_congr (failPoint_streams ..) i).trans (State.setStream_stream_self ..)⟩

/-- R18: the credit part changes the stream's credited destination alone. -/
theorem creditStep_stream (i : StreamIx) (c : StreamCfg) :
    (creditStep i c s).stream i =
      { s.stream i with credited := creditedBy c (s.actuator c.route).confirmed } := by
  refine (stream_congr ?_ i).trans (State.setStream_stream_self s i _)
  unfold creditStep
  dsimp only
  split
  · exact creditDest_streams ..
  · split
    · exact creditDest_streams ..
    · rfl
  · exact creditUnrouted_streams ..
  · rfl

/-- R23 to R25: the routing part changes the stream's state and its time in DIVERTED alone. -/
theorem routeStep_stream (i : StreamIx) (c : StreamCfg) :
    (routeStep i c s).stream i =
      let r := settleRoute c (accepts s c.primary) (c.divert.any (accepts s)) (s.stream i)
      { s.stream i with state := r.1, divertedTime := r.2 } := by
  refine (stream_congr ?_ i).trans (State.setStream_stream_self s i _)
  rw [routeStep, routeRequest_streams, routeAlert_streams]

@[simp] theorem streamVolume_rate (i : StreamIx) (c : StreamCfg) :
    ((streamVolume i c s).1.stream i).rate = (s.stream i).rate := by
  obtain ⟨_, _, h⟩ := streamVolume_stream s i c; rw [h]

@[simp] theorem creditStep_rate (i : StreamIx) (c : StreamCfg) :
    ((creditStep i c s).stream i).rate = (s.stream i).rate := by rw [creditStep_stream]

@[simp] theorem creditStep_lastMass (i : StreamIx) (c : StreamCfg) :
    ((creditStep i c s).stream i).lastMass = (s.stream i).lastMass := by rw [creditStep_stream]

@[simp] theorem routeStep_rate (i : StreamIx) (c : StreamCfg) :
    ((routeStep i c s).stream i).rate = (s.stream i).rate := by rw [routeStep_stream]

@[simp] theorem routeStep_lastMass (i : StreamIx) (c : StreamCfg) :
    ((routeStep i c s).stream i).lastMass = (s.stream i).lastMass := by rw [routeStep_stream]

/-- R17: the stream's own account moves the rate estimate by the mass increment it has just made. -/
theorem accountStep_rate (c : StreamCfg) (conc v : Nat) (fallbackUsed : Bool) (x : Stream) :
    (accountStep c conc v fallbackUsed x).rate =
      nextRate x.rate (accountStep c conc v fallbackUsed x).lastMass c.shift := rfl

/-- R17: over a whole step the rate estimate moves by the step's mass increment; the credit and the routing leave both. -/
theorem stepStream_rate {i : StreamIx} {c : StreamCfg} (hc : (s.stream i).cfg = some c) (hon : (s.stream i).state ≠ .offline) :
    ((stepStream i s).stream i).rate = nextRate (s.stream i).rate ((stepStream i s).stream i).lastMass c.shift := by
  simp [stepStream, hc, hon, accountStep_rate]

end Sys2Proof.Machine
end

section
/-! PROOF of O39. The rate estimate (R17): each step shortens the distance to the input and never passes it, so a constant input
is reached. -/

namespace Sys2Proof.Machine

/-- R17: the input of a rate estimate, a mass increment held at the greatest rate. -/
def rateInput (dm : Nat) : Nat := min dm 16777215

theorem rateInput_le (dm : Nat) : rateInput dm ≤ 16777215 := Nat.min_le_right ..

/-- R17: the length of a move over a distance `d` that is not 0. -/
def moveLength (d shift : Nat) : Nat := max (d / 2 ^ shift) 1

theorem moveLength_pos (d shift : Nat) : 1 ≤ moveLength d shift := Nat.le_max_right ..

theorem moveLength_le {d : Nat} (h : 0 < d) (shift : Nat) : moveLength d shift ≤ d :=
  Nat.max_le.mpr ⟨Nat.div_le_self .., h⟩

theorem moveLength_zero {d : Nat} (h : 0 < d) : moveLength d 0 = d := by
  rw [moveLength, pow_zero, Nat.div_one, Nat.max_eq_left h]

theorem rateMove_zero (shift : Nat) : rateMove 0 shift = 0 := by simp [rateMove]

theorem rateMove_up {d : Nat} (h : 0 < d) (shift : Nat) : rateMove d shift = moveLength d shift := by
  have hq : (d : Int).tdiv (2 ^ shift) = (d / 2 ^ shift : Nat) := by
    exact_mod_cast (Int.ofNat_tdiv d (2 ^ shift)).symm
  simp only [rateMove, hq, moveLength]
  generalize d / 2 ^ shift = q
  split <;> omega

/-- Truncation toward zero makes the move down the mirror image of the move up. -/
theorem rateMove_down {d : Nat} (h : 0 < d) (shift : Nat) : rateMove (-d) shift = -moveLength d shift := by
  rw [← rateMove_up h]
  simp only [rateMove, Int.neg_tdiv]
  split <;> split <;> omega

section
variable {rate dm : Nat} (shift : Nat)

theorem nextRate_eq : nextRate rate dm shift = (rate + rateMove (rateInput dm - rate) shift).toNat := rfl

theorem nextRate_self (h : rate = rateInput dm) : nextRate rate dm shift = rate := by
  simp [nextRate_eq, ← h, rateMove_zero]

theorem nextRate_of_lt (h : rate < rateInput dm) :
    nextRate rate dm shift = rate + moveLength (rateInput dm - rate) shift := by
  have hd : (rateInput dm - rate : Int) = (rateInput dm - rate : Nat) := by omega
  rw [nextRate_eq, hd, rateMove_up (by omega)]
  omega

theorem nextRate_of_gt (h : rateInput dm < rate) :
    nextRate rate dm shift + moveLength (rate - rateInput dm) shift = rate := by
  have hd : (rateInput dm - rate : Int) = -(rate - rateInput dm : Nat) := by omega
  have hle := moveLength_le (Nat.sub_pos_of_lt h) shift
  rw [nextRate_eq, hd, rateMove_down (by omega)]
  omega

/-- R17: from below, the estimate moves up by its length and not past the input. -/
theorem nextRate_up (h : rate ≤ rateInput dm) :
    rate ≤ nextRate rate dm shift ∧ nextRate rate dm shift ≤ rateInput dm ∧
      nextRate rate dm shift = rate + (if rate < rateInput dm then moveLength (rateInput dm - rate) shift else 0) := by
  rcases Nat.lt_or_eq_of_le h with h | h
  · have := moveLength_le (Nat.sub_pos_of_lt h) shift
    rw [nextRate_of_lt shift h, if_pos h]
    omega
  · rw [nextRate_self shift h, if_neg (by omega)]
    omega

/-- R17: from above, the estimate moves down by its length and not past the input. -/
theorem nextRate_down (h : rateInput dm ≤ rate) :
    rateInput dm ≤ nextRate rate dm shift ∧ nextRate rate dm shift ≤ rate ∧
      nextRate rate dm shift + (if rateInput dm < rate then moveLength (rate - rateInput dm) shift else 0) = rate := by
  rcases Nat.lt_or_eq_of_le h with h | h
  · have hle := moveLength_le (Nat.sub_pos_of_lt h) shift
    have hmove := nextRate_of_gt shift h
    rw [if_pos h]
    omega
  · rw [nextRate_self shift h.symm, if_neg (by omega)]
    omega

/-- R17: the estimate stays within 16,777,215. -/
theorem nextRate_le (h : rate ≤ 16777215) : nextRate rate dm shift ≤ 16777215 := by
  have hin := rateInput_le dm
  rcases Nat.le_total rate (rateInput dm) with hle | hle
  · obtain ⟨-, hup, -⟩ := nextRate_up shift hle
    exact hup.trans hin
  · obtain ⟨-, hdown, -⟩ := nextRate_down shift hle
    exact hdown.trans h

theorem nextRate_shift_zero : nextRate rate dm 0 = rateInput dm := by
  rcases Nat.lt_trichotomy rate (rateInput dm) with h | h | h
  · rw [nextRate_of_lt 0 h, moveLength_zero (by omega)]; omega
  · rw [nextRate_self 0 h, h]
  · have hmove := nextRate_of_gt 0 h
    rw [moveLength_zero (by omega)] at hmove; omega

/-- The measure of convergence: a step brings the estimate nearer to its input by at least 1. -/
theorem nextRate_dist : Nat.dist (nextRate rate dm shift) (rateInput dm) ≤ Nat.dist rate (rateInput dm) - 1 := by
  unfold Nat.dist
  rcases Nat.lt_trichotomy rate (rateInput dm) with h | h | h
  · have hpos := moveLength_pos (rateInput dm - rate) shift
    have hmove := nextRate_of_lt shift h
    obtain ⟨-, hin, -⟩ := nextRate_up shift h.le
    omega
  · rw [nextRate_self shift h]; omega
  · have hpos := moveLength_pos (rate - rateInput dm) shift
    have hmove := nextRate_of_gt shift h
    obtain ⟨hin, -, -⟩ := nextRate_down shift h.le
    omega

theorem repeat_nextRate_dist (m : Nat) :
    Nat.dist (Nat.repeat (fun x => nextRate x dm shift) m rate) (rateInput dm) ≤ Nat.dist rate (rateInput dm) - m := by
  induction m with
  | zero => exact Nat.le_refl _
  | succ m ih =>
    have hstep := nextRate_dist (rate := Nat.repeat (fun x => nextRate x dm shift) m rate) (dm := dm) shift
    simp only [Nat.repeat]
    omega

/-- R17: a constant input is reached after at most as many steps as its distance, and kept. -/
theorem repeat_nextRate_reaches {m : Nat} (h : Nat.dist rate (rateInput dm) ≤ m) :
    Nat.repeat (fun x => nextRate x dm shift) m rate = rateInput dm := by
  have hdist := repeat_nextRate_dist (rate := rate) (dm := dm) shift m
  exact Nat.eq_of_dist_eq_zero (by omega)

end

/-! ### Start, stop and the reading of a cell -/

/-- R7: a START_STREAM that changes the stream's state sets its rate estimate to 0. -/
theorem startStream_rate (s : State) {i : StreamIx} (h : ((startStream i s).2.stream i).state ≠ (s.stream i).state) :
    ((startStream i s).2.stream i).rate = 0 := by
  revert h
  unfold startStream
  repeat' split
  all_goals simp [refused, accepted, activate]

/-- R8: a STOP_STREAM that changes the stream's state sets its rate estimate to 0. -/
theorem stopStream_rate (s : State) {i : StreamIx} (h : ((stopStream i s).2.stream i).state ≠ (s.stream i).state) :
    ((stopStream i s).2.stream i).rate = 0 := by
  revert h
  unfold stopStream
  split
  · simp [refused]
  · by_cases hoff : (s.stream i).state = .offline <;> simp [accepted, hoff, deactivate]

theorem streams_toList (s : State) : s.streams.toList = (List.finRange 16).map s.stream := by
  apply List.ext_getElem <;> simp [State.stream]

/-- Summing over the elements that a test picks is summing 0 for the others. -/
theorem sum_map_filter {α : Type} (p : α → Bool) (f : α → Nat) (l : List α) :
    ((l.filter p).map f).sum = (l.map fun x => if p x then f x else 0).sum := by
  induction l with
  | nil => rfl
  | cons x l ih => by_cases h : p x <;> simp [h, ih]

/-- R17, R119: what a stream adds to the inflow rate of a cell. -/
def inflowOf (e : CellIx) (x : Stream) : Nat :=
  match x.cfg with
  | some c =>
    if (x.credited = .primary ∧ c.primary = .cell e) ∨ (x.credited = .divert ∧ c.divert = some (.cell e)) then x.rate else 0
  | none => 0

theorem inflowOf_eq (e : CellIx) (x : Stream) : inflowOf e x = if creditsCell e x then x.rate else 0 := by
  unfold inflowOf creditsCell
  cases x.cfg <;> simp

/-- R119: the inflow rate of a cell as a sum over all streams. -/
theorem inflowRate_eq_sum (s : State) (e : CellIx) :
    inflowRate s e = min ((List.finRange 16).map fun i => inflowOf e (s.stream i)).sum 16777215 := by
  simp only [inflowRate, streams_toList, sum_map_filter, List.map_map, inflowOf_eq]
  rfl

/-- Settles O39: `nextRate` case by case and its distance to the input, the stream's record after a step, and the sum a cell reads. -/
theorem rateEstimateReachesItsInput : Obligations.RateEstimateReachesItsInput := by
  refine ⟨fun rate dm shift hrate _ => ⟨nextRate_up shift, nextRate_down shift, nextRate_le shift hrate, ?_, ?_⟩, ?_, ?_, ?_⟩
  · rintro rfl
    exact nextRate_shift_zero
  · exact ⟨Nat.dist rate (rateInput dm), fun m => repeat_nextRate_reaches shift⟩
  · exact fun s i c => stepStream_rate s
  · exact fun s i => ⟨startStream_rate s, stopStream_rate s⟩
  · exact inflowRate_eq_sum

end Sys2Proof.Machine
end

section
/-! PROOF of O44. The probe curve (R46): rising breakpoints decide which segment a raw reading lies in, and rounding half away from
zero keeps the segment's quotient within the rise of the segment. -/

namespace Sys2Proof.Machine

/-! ### Rounding half away from zero -/

section
variable {n d : Nat} {z : Int}

/-- A rounded quotient times the divisor is at most half the divisor away from the dividend, and a half goes up. -/
theorem roundHalfUp_nearest (hd : 0 < d) :
    2 * (roundHalfUp n d * d) ≤ 2 * n + d ∧ 2 * n < 2 * (roundHalfUp n d * d) + d := by
  have hdiv : 2 * d * roundHalfUp n d + (2 * n + d) % (2 * d) = 2 * n + d := Nat.div_add_mod ..
  have hmod : (2 * n + d) % (2 * d) < 2 * d := Nat.mod_lt _ (by omega)
  have hcomm : 2 * d * roundHalfUp n d = 2 * (roundHalfUp n d * d) := by ring
  omega

/-- A dividend of at most `m` times the divisor is rounded to at most `m`. -/
theorem roundHalfUp_le {m : Nat} (hd : 0 < d) (h : n ≤ m * d) : roundHalfUp n d ≤ m := by
  apply Nat.lt_succ_iff.mp
  rw [roundHalfUp, Nat.div_lt_iff_lt_mul (by omega), Nat.mul_left_comm, Nat.succ_mul m]
  omega

@[simp] theorem roundHalfAway_zero : roundHalfAway 0 d = 0 := by simp [roundHalfAway]

theorem roundHalfAway_neg : roundHalfAway (-z) d = -roundHalfAway z d := by simp [roundHalfAway]

theorem roundHalfAway_nonneg (h : 0 ≤ z) : 0 ≤ roundHalfAway z d :=
  Int.mul_nonneg (Int.sign_nonneg_iff.mpr h) (Int.natCast_nonneg _)

theorem roundHalfAway_nonpos (h : z ≤ 0) : roundHalfAway z d ≤ 0 := by
  have hneg : 0 ≤ roundHalfAway (-z) d := roundHalfAway_nonneg (by omega)
  rw [roundHalfAway_neg] at hneg
  omega

/-- Rounding half away from zero rounds the magnitude half up. -/
theorem natAbs_roundHalfAway (hd : 0 < d) : (roundHalfAway z d).natAbs = roundHalfUp z.natAbs d := by
  rcases eq_or_ne z 0 with rfl | hz
  · have hzero : roundHalfUp 0 d ≤ 0 := roundHalfUp_le hd (Nat.zero_le _)
    rw [roundHalfAway_zero, Int.natAbs_zero]
    omega
  · rw [roundHalfAway, Int.natAbs_mul, Int.natAbs_sign_of_ne_zero hz, Int.natAbs_natCast, Nat.one_mul]

end

/-! ### The interpolation on one segment -/

/-- R46: the quotient that the interpolation adds to the value at the segment's start. -/
def segmentQuotient (x0 : Int) (y0 : Nat) (x1 : Int) (y1 : Nat) (r : Int) : Int :=
  roundHalfAway (((y1 : Int) - y0) * (r - x0)) (x1 - x0).toNat

section
variable {x0 x1 r : Int} {y0 y1 : Nat}

theorem interpolate_eq : interpolate x0 y0 x1 y1 r = (y0 + segmentQuotient x0 y0 x1 y1 r).toNat := rfl

/-- R46: a raw reading on the breakpoint where the segment starts takes that breakpoint's value. -/
theorem interpolate_start : interpolate x0 y0 x1 y1 x0 = y0 := by simp [interpolate]

theorem segmentQuotient_nearest (h : x0 < x1) :
    2 * ((segmentQuotient x0 y0 x1 y1 r).natAbs * (x1 - x0).toNat) ≤
        2 * (((y1 : Int) - y0) * (r - x0)).natAbs + (x1 - x0).toNat ∧
      2 * (((y1 : Int) - y0) * (r - x0)).natAbs <
        2 * ((segmentQuotient x0 y0 x1 y1 r).natAbs * (x1 - x0).toNat) + (x1 - x0).toNat := by
  have hd : 0 < (x1 - x0).toNat := by omega
  rw [segmentQuotient, natAbs_roundHalfAway hd]
  exact roundHalfUp_nearest hd

theorem rising_of_segmentQuotient_pos (h : x0 < r) (hq : 0 < segmentQuotient x0 y0 x1 y1 r) : y0 < y1 := by
  by_contra hle
  have hz : ((y1 : Int) - y0) * (r - x0) ≤ 0 := Int.mul_nonpos_of_nonpos_of_nonneg (by omega) (by omega)
  exact absurd (roundHalfAway_nonpos hz) (Int.not_le.mpr hq)

theorem falling_of_segmentQuotient_neg (h : x0 < r) (hq : segmentQuotient x0 y0 x1 y1 r < 0) : y1 < y0 := by
  by_contra hle
  have hz : 0 ≤ ((y1 : Int) - y0) * (r - x0) := Int.mul_nonneg (by omega) (by omega)
  exact absurd (roundHalfAway_nonneg hz) (Int.not_le.mpr hq)

/-- R46: the quotient's magnitude never exceeds that of the segment's rise. -/
theorem natAbs_segmentQuotient_le (h0 : x0 < r) (h1 : r < x1) :
    (segmentQuotient x0 y0 x1 y1 r).natAbs ≤ ((y1 : Int) - y0).natAbs := by
  have hd : 0 < (x1 - x0).toNat := by omega
  rw [segmentQuotient, natAbs_roundHalfAway hd, Int.natAbs_mul]
  exact roundHalfUp_le hd (Nat.mul_le_mul_left _ (by omega))

/-- R46: an interpolated value lies between the values of the two breakpoints that bound its raw reading. -/
theorem interpolate_between (h0 : x0 < r) (h1 : r < x1) :
    min y0 y1 ≤ interpolate x0 y0 x1 y1 r ∧ interpolate x0 y0 x1 y1 r ≤ max y0 y1 := by
  have hpos := rising_of_segmentQuotient_pos (x1 := x1) (y0 := y0) (y1 := y1) h0
  have hneg := falling_of_segmentQuotient_neg (x1 := x1) (y0 := y0) (y1 := y1) h0
  have hle := natAbs_segmentQuotient_le (y0 := y0) (y1 := y1) h0 h1
  rw [interpolate_eq]
  omega

end

/-! ### The segment of a raw reading -/

section
variable {x r : Int} {y : Nat} {front tail : Curve}

/-- R46: breakpoints that the raw reading has reached are passed over. -/
theorem curveFrom_append (xs : Int) (ys : Nat) (hfront : ∀ b ∈ front, b.1 ≤ r) (hx : x ≤ r) :
    curveFrom xs ys r (front ++ (x, y) :: tail) = curveFrom x y r tail := by
  induction front generalizing xs ys with
  | nil => simp [curveFrom, hx]
  | cons b front ih =>
    obtain ⟨hb, hrest⟩ := List.forall_mem_cons.mp hfront
    rw [List.cons_append, curveFrom, if_neg (Int.not_lt.mpr hb), ih _ _ hrest]

/-- R46: on rising breakpoints, a raw reading that has reached `(x, y)` depends on that breakpoint and those after it alone. -/
theorem onCurve_append (hc : (front ++ (x, y) :: tail).Pairwise fun a b => a.1 < b.1) (hx : x ≤ r) :
    onCurve r (front ++ (x, y) :: tail) = curveFrom x y r tail := by
  obtain ⟨-, -, hbefore⟩ := List.pairwise_append.mp hc
  have hfront : ∀ b ∈ front, b.1 ≤ r := fun b hb => (hbefore b hb (x, y) List.mem_cons_self).le.trans hx
  cases front with
  | nil => exact if_neg (Int.not_lt.mpr hx)
  | cons b front =>
    obtain ⟨hb, hrest⟩ := List.forall_mem_cons.mp hfront
    exact (if_neg (Int.not_lt.mpr hb)).trans (curveFrom_append _ _ hrest hx)

/-- R46: a raw reading on the breakpoint `(x, y)` takes its value, not bound by an end. -/
theorem curveFrom_self (htail : ∀ b ∈ tail, x < b.1) : curveFrom x y x tail = (y, false) := by
  cases tail with
  | nil => simp [curveFrom]
  | cons b tail => rw [curveFrom, if_pos (htail b List.mem_cons_self), interpolate_start]

/-- R46: a raw reading that falls on a breakpoint takes that breakpoint's value. -/
theorem onCurve_breakpoint {c : Curve} (hc : c.Pairwise fun a b => a.1 < b.1) (h : (x, y) ∈ c) :
    onCurve x c = (y, false) := by
  obtain ⟨front, tail, rfl⟩ := List.append_of_mem h
  obtain ⟨-, htail, -⟩ := List.pairwise_append.mp hc
  obtain ⟨hafter, -⟩ := List.pairwise_cons.mp htail
  rw [onCurve_append hc le_rfl, curveFrom_self hafter]

end

/-! ### The kind maximum -/

section
variable {k : PointKind} {v : Nat} (bound : Bool)

theorem kindClamp_of_gt (h : kindMax k < v) : kindClamp k (v, bound) = (kindMax k, .limited) := if_pos h

theorem kindClamp_of_le (h : v ≤ kindMax k) : kindClamp k (v, bound) = (v, if bound then .limited else .good) :=
  if_neg (Nat.not_lt.mpr h)

end

/-- Settles O44: the breakpoints that a reading has reached are passed over, and the rounded quotient of its segment is bounded by the
segment's rise. -/
theorem curvesConvertRawReadings : Obligations.CurvesConvertRawReadings := by
  refine ⟨fun c r ⟨_, _, hrising, _⟩ => ⟨?below, ?above, ?on, ?inside⟩, fun k v bound => ⟨?clamped, ?unclamped⟩⟩
  case below =>
    rintro x y rest rfl hr
    exact if_pos hr
  case above =>
    rintro x y front rfl hr
    rw [onCurve_append hrising hr.le]
    simp [curveFrom, hr]
  case on => exact fun x y h => onCurve_breakpoint hrising h
  case inside =>
    rintro front x0 x1 y0 y1 rest rfl h0 h1
    obtain ⟨hlow, hhigh⟩ := segmentQuotient_nearest (r := r) (y0 := y0) (y1 := y1) (h0.trans h1)
    refine ⟨segmentQuotient x0 y0 x1 y1 r, ?_, hlow, hhigh, rising_of_segmentQuotient_pos h0, falling_of_segmentQuotient_neg h0,
      interpolate_between h0 h1⟩
    rw [onCurve_append hrising h0.le, curveFrom, if_pos h1, interpolate_eq]
  case clamped => exact kindClamp_of_gt bound
  case unclamped => exact kindClamp_of_le bound

end Sys2Proof.Machine
end

section
/-! PROOF of O37. The completion of an ALL-SAFE (R86): what it does to one actuator and to the control set queue is said once, and the
round over A0 to A15 is that on every record, with one pass over the queue. -/

namespace Sys2Proof.Machine

/-! ### One actuator -/

/-- R75: the safe value of a FIELD-bound actuator. -/
def fieldSafe (x : Actuator) : Option Nat :=
  match x.cfg with
  | some { binding := .field .., safe } => some safe
  | _ => none

section
variable {x : Actuator}

theorem fieldSafe_eq_some {v : Nat} :
    fieldSafe x = some v ↔ ∃ n ch, x.cfg = some { binding := .field n ch, safe := v } := by
  unfold fieldSafe
  split
  · next h => simp [h]
  · next h =>
    simp only [reduceCtorEq, false_iff]
    rintro ⟨n, ch, hx⟩
    exact h n ch v hx

theorem fieldSafe_of_field {c : ActuatorCfg} {n : NodeIx} {ch : Channel} (h : x.cfg = some c) (hb : c.binding = .field n ch) :
    fieldSafe x = some c.safe :=
  fieldSafe_eq_some.mpr ⟨n, ch, by rw [h, ← hb]⟩

theorem fieldSafe_of_pin {c : ActuatorCfg} {p : PinIx} (h : x.cfg = some c) (hb : c.binding = .pin p) : fieldSafe x = none := by
  obtain ⟨_, _⟩ := c
  cases hb
  simp [fieldSafe, h]

theorem fieldSafe_of_unloaded (h : x.cfg = none) : fieldSafe x = none := by simp [fieldSafe, h]

end

/-- R86: the record of an actuator after the completion of an ALL-SAFE. -/
def allSafeRecord (x : Actuator) : Actuator :=
  match fieldSafe x with
  | none => x
  | some safe =>
    let y := { x with confirmed := some safe }
    match x.state with
    | .idle => if x.desired = safe then y else { y with state := .pending, retry := none }
    | .pending => if x.desired = safe then { y with state := .idle } else y
    | .inFlight => y
    | .refused => { y with state := if x.desired = safe then .idle else .pending, retry := none }
    | .failed => { y with state := if x.desired = safe then .idle else .pending, retry := none }

/-- R86: a PENDING set of the safe value is withdrawn from the control set queue. -/
def leavesAtAllSafe (x : Actuator) : Bool :=
  x.state = .pending ∧ fieldSafe x = some x.desired

/-- R86: a FIELD-bound actuator whose desired value is not its safe value, and that neither waits nor is under way, is queued again. -/
def joinsAtAllSafe (x : Actuator) : Bool :=
  (x.state = .idle ∨ x.state = .refused ∨ x.state = .failed) ∧ ∃ safe ∈ fieldSafe x, x.desired ≠ safe

theorem leavesAtAllSafe_iff {x : Actuator} :
    leavesAtAllSafe x = true ↔
      x.state = .pending ∧ ∃ n ch, x.cfg = some { binding := .field n ch, safe := x.desired } := by
  rw [leavesAtAllSafe, decide_eq_true_iff, fieldSafe_eq_some]

theorem joinsAtAllSafe_iff {x : Actuator} :
    joinsAtAllSafe x = true ↔
      (x.state = .idle ∨ x.state = .refused ∨ x.state = .failed) ∧
        ∃ n ch safe, x.cfg = some { binding := .field n ch, safe := safe } ∧ x.desired ≠ safe := by
  simp only [joinsAtAllSafe, decide_eq_true_iff, Option.mem_def, fieldSafe_eq_some]
  refine and_congr_right fun _ => ⟨?_, ?_⟩
  · rintro ⟨safe, ⟨n, ch, hx⟩, hd⟩
    exact ⟨n, ch, safe, hx, hd⟩
  · rintro ⟨n, ch, safe, hx, hd⟩
    exact ⟨safe, ⟨n, ch, hx⟩, hd⟩

theorem allSafeRecord_of_none {x : Actuator} (h : fieldSafe x = none) : allSafeRecord x = x := by simp [allSafeRecord, h]

variable (s : State)

theorem allSafeConfirm_of_none {a : ActIx} (h : fieldSafe (s.actuator a) = none) : allSafeConfirm a s = s := by
  unfold allSafeConfirm
  dsimp only
  split
  · next h' => simp [fieldSafe, h'] at h
  · rfl
  · rfl

/-- R86: what the completion does to one actuator. In the cases left to `rfl` the queue stays as it is. -/
theorem allSafeConfirm_eq (a : ActIx) :
    allSafeConfirm a s =
      (s.setActuator a (allSafeRecord (s.actuator a))).setLine { s.line with
        controlQ := s.line.controlQ.filter (fun b => !(decide (b = a) && leavesAtAllSafe (s.actuator a))) ++
          if joinsAtAllSafe (s.actuator a) then [a] else [] } := by
  cases hf : fieldSafe (s.actuator a) with
  | none =>
    simp [allSafeConfirm_of_none s hf, allSafeRecord_of_none hf, leavesAtAllSafe, joinsAtAllSafe, hf]
    rfl
  | some safe =>
    obtain ⟨n, ch, hcfg⟩ := fieldSafe_eq_some.mp hf
    by_cases hd : (s.actuator a).desired = safe
    · cases hst : (s.actuator a).state <;>
        simp [allSafeConfirm, allSafeRecord, leavesAtAllSafe, joinsAtAllSafe, hf, hcfg, hd, hst, withdraw_eq, settleIdle_eq]
      all_goals rfl
    · cases hst : (s.actuator a).state <;>
        simp [allSafeConfirm, allSafeRecord, leavesAtAllSafe, joinsAtAllSafe, hf, hcfg, hd, Ne.symm hd, hst, enqueue_eq]
      all_goals rfl

theorem allSafeConfirm_actuator (a b : ActIx) :
    (allSafeConfirm a s).actuator b = if b = a then allSafeRecord (s.actuator a) else s.actuator b := by
  rw [allSafeConfirm_eq, State.setLine_actuator, State.setActuator_actuator]

theorem allSafeConfirm_controlQ (a : ActIx) :
    (allSafeConfirm a s).line.controlQ =
      s.line.controlQ.filter (fun b => !(decide (b = a) && leavesAtAllSafe (s.actuator a))) ++
        if joinsAtAllSafe (s.actuator a) then [a] else [] := by
  rw [allSafeConfirm_eq, State.setLine_line]

/-! ### The round over the actuators -/

/-- R86: the completion touches the actuators and the control set queue alone. -/
theorem foldl_allSafeConfirm_touches (l : List ActIx) :
    ∃ acts queue, l.foldl (fun s a => allSafeConfirm a s) s =
      { s with actuators := acts, line := { s.line with controlQ := queue } } := by
  induction l generalizing s with
  | nil => exact ⟨s.actuators, s.line.controlQ, rfl⟩
  | cons a l ih =>
    obtain ⟨acts, queue, h⟩ := ih (allSafeConfirm a s)
    exact ⟨acts, queue, by rw [List.foldl_cons, h, allSafeConfirm_eq]; rfl⟩

theorem foldl_allSafeConfirm_actuator {l : List ActIx} (hl : l.Nodup) (b : ActIx) :
    (l.foldl (fun s a => allSafeConfirm a s) s).actuator b = if b ∈ l then allSafeRecord (s.actuator b) else s.actuator b := by
  induction l generalizing s with
  | nil => rfl
  | cons a l ih =>
    obtain ⟨ha, hl⟩ := List.nodup_cons.mp hl
    rw [List.foldl_cons, ih _ hl, allSafeConfirm_actuator]
    by_cases hb : b = a <;> simp [hb, ha]

/-- R86: who waits after the round, `r` being the records of the round's actuators before it. An actuator that has had its turn is
neither withdrawn nor queued by a later one. -/
theorem foldl_allSafeConfirm_controlQ {l : List ActIx} (hl : l.Nodup) (r : ActIx → Actuator) (hr : ∀ b ∈ l, s.actuator b = r b) :
    (l.foldl (fun s a => allSafeConfirm a s) s).line.controlQ =
      s.line.controlQ.filter (fun b => !(decide (b ∈ l) && leavesAtAllSafe (r b))) ++ l.filter fun b => joinsAtAllSafe (r b) := by
  induction l generalizing s with
  | nil => simp
  | cons a l ih =>
    obtain ⟨ha, hl⟩ := List.nodup_cons.mp hl
    obtain ⟨hra, hrl⟩ := List.forall_mem_cons.mp hr
    have hrest : ∀ b ∈ l, (allSafeConfirm a s).actuator b = r b := fun b hb => by
      rw [allSafeConfirm_actuator, if_neg (ne_of_mem_of_not_mem hb ha), hrl b hb]
    have hstay : ∀ b, (!(decide (b ∈ l) && leavesAtAllSafe (r b)) && !(decide (b = a) && leavesAtAllSafe (r a))) =
        !(decide (b ∈ a :: l) && leavesAtAllSafe (r b)) := fun b => by
      by_cases hb : b = a <;> simp [hb, ha]
    rw [List.foldl_cons, ih _ hl hrest, allSafeConfirm_controlQ, hra, List.filter_append, List.filter_filter,
      List.filter_congr fun b _ => hstay b]
    by_cases hj : joinsAtAllSafe (r a) <;> simp [hj, ha]

theorem actuatorsConfirmed_touches :
    ∃ acts queue, actuatorsConfirmed s = { s with actuators := acts, line := { s.line with controlQ := queue } } :=
  foldl_allSafeConfirm_touches s _

theorem actuatorsConfirmed_actuator (a : ActIx) : (actuatorsConfirmed s).actuator a = allSafeRecord (s.actuator a) := by
  rw [actuatorsConfirmed, foldl_allSafeConfirm_actuator s (List.nodup_finRange 16), if_pos (List.mem_finRange a)]

theorem actuatorsConfirmed_controlQ :
    (actuatorsConfirmed s).line.controlQ =
      s.line.controlQ.filter (fun a => !leavesAtAllSafe (s.actuator a)) ++
        (List.finRange 16).filter fun a => joinsAtAllSafe (s.actuator a) := by
  rw [actuatorsConfirmed, foldl_allSafeConfirm_controlQ s (List.nodup_finRange 16) s.actuator fun _ _ => rfl]
  simp

/-- Settles O37: one actuator's record after R86, and the round over A0 to A15 record by record and in the queue. -/
theorem allSafeConfirmsTheFieldActuators : Obligations.AllSafeConfirmsTheFieldActuators := by
  intro s hlive
  refine ⟨fun hhold => ?sent, fun hhold => ⟨actuatorsConfirmed (setHold .none s), ?complete, ?touches,
    fun a c hc => ⟨fun p hb => ?pin, fun n ch hb => ?field⟩, fun a hc => ?unloaded,
    _, _, actuatorsConfirmed_controlQ _, ?stay, ?sorted, fun a => ?join⟩⟩
  case sent => exact (live_of_not_inReset hlive _).trans (by rw [if_pos hhold]; rfl)
  case complete => exact (live_of_not_inReset hlive _).trans (by rw [if_pos hhold])
  case touches =>
    obtain ⟨acts, queue, h⟩ := actuatorsConfirmed_touches (setHold .none s)
    rw [h]; rfl
  case pin =>
    rw [actuatorsConfirmed_actuator]
    exact allSafeRecord_of_none (fieldSafe_of_pin hc hb)
  case unloaded =>
    rw [actuatorsConfirmed_actuator]
    exact allSafeRecord_of_none (fieldSafe_of_unloaded hc)
  case field =>
    have hf := fieldSafe_of_field hc hb
    simp only [actuatorsConfirmed_actuator, setHold, State.setLine_actuator, allSafeRecord, hf]
    refine ⟨fun hd hst => ?_, fun hd hst => ?_, fun hd hst => ?_, fun hd hst => ?_, fun hd hst => ?_⟩
    · simp [hd, hst]
    · rcases hst with hst | hst <;> simp [hd, hst]
    · rcases hst with hst | hst <;> simp [hd, hst]
    · rcases hst with hst | hst | hst <;> simp [hd, hst]
    · rcases hst with hst | hst <;> simp [hd, hst]
  case stay =>
    refine List.filter_congr fun a _ => Bool.eq_iff_iff.mpr ?_
    rw [Bool.not_eq_true', ← Bool.not_eq_true, leavesAtAllSafe_iff, decide_eq_true_iff]
    rfl
  case sorted => exact (List.sortedLT_finRange 16).pairwise.filter _
  case join =>
    rw [List.mem_filter, joinsAtAllSafe_iff]
    exact and_iff_right (List.mem_finRange a)

end Sys2Proof.Machine
end

section
/-! PROOF of O47. The regulation of a RUN cell (R118 to R124, R127): its first two parts form one record, sensing the voltage changes at most
the fold-back level and the two counts of that record, and the cell is then driven or faulted with what sensing has left. -/

namespace Sys2Proof.Machine

/-- R34, R36. -/
theorem usable_iff {p : Point} :
    usable p = true ↔ (∃ c, p.cfg = some c) ∧ (p.quality = .good ∨ p.quality = .limited ∨ p.quality = .stale) := by
  simp [usable, Option.isSome_iff_exists, or_assoc]

/-! ### Sensing the voltage -/

section
variable {c : CellCfg} {p : Point} {x : Cell}

theorem senseVoltage_of_usable (h : usable p = true) :
    senseVoltage c p x = judgeVoltage c p.value { x with miss := 0 } := by
  rw [senseVoltage, if_pos h]

theorem senseVoltage_of_high_of_fold_lt (h : usable p = true) (hv : c.vLimit < p.value) (hfold : x.fold < 6) :
    senseVoltage c p x = ({ x with fold := x.fold + 1, miss := 0 }, .none) := by
  rw [senseVoltage_of_usable h, judgeVoltage, if_pos hv, if_pos hfold]

theorem senseVoltage_of_high_of_le_fold (h : usable p = true) (hv : c.vLimit < p.value) (hfold : 6 ≤ x.fold)
    (hhigh : x.high < 9) :
    senseVoltage c p x = ({ x with high := x.high + 1, miss := 0 }, .none) := by
  rw [senseVoltage_of_usable h, judgeVoltage, if_pos hv, if_neg (Nat.not_lt.mpr hfold), if_neg (by simpa using hhigh)]

theorem senseVoltage_of_tenth_high (h : usable p = true) (hv : c.vLimit < p.value) (hfold : 6 ≤ x.fold)
    (hhigh : 9 ≤ x.high) :
    senseVoltage c p x = ({ x with high := x.high + 1, miss := 0 }, .sulfideRisk) := by
  rw [senseVoltage_of_usable h, judgeVoltage, if_pos hv, if_neg (Nat.not_lt.mpr hfold), if_pos (by simpa using hhigh)]

theorem senseVoltage_of_low (h : usable p = true) (hv : p.value < c.vLimit - c.vHyst) :
    senseVoltage c p x = ({ x with fold := x.fold - 1, high := 0, miss := 0 }, .none) := by
  rw [senseVoltage_of_usable h, judgeVoltage, if_neg (by omega), if_pos hv]

theorem senseVoltage_of_band (h : usable p = true) (hlow : c.vLimit - c.vHyst ≤ p.value) (hhigh : p.value ≤ c.vLimit) :
    senseVoltage c p x = ({ x with high := 0, miss := 0 }, .none) := by
  rw [senseVoltage_of_usable h, judgeVoltage, if_neg (Nat.not_lt.mpr hhigh), if_neg (Nat.not_lt.mpr hlow)]

/-- R121: a miss holds the fold-back level and the high count. -/
theorem senseVoltage_of_miss (h : ¬ usable p = true) (hmiss : x.miss < 2) :
    senseVoltage c p x = ({ x with miss := x.miss + 1 }, .none) := by
  rw [senseVoltage, if_neg h, if_neg (by omega)]

theorem senseVoltage_of_third_miss (h : ¬ usable p = true) (hmiss : 2 ≤ x.miss) :
    senseVoltage c p x = ({ x with miss := x.miss + 1 }, .senseLost) := by
  rw [senseVoltage, if_neg h, if_pos (by omega)]

end

/-! ### The two ends of a regulation -/

/-- R118 to R120: a RUN cell with its timer restarted and parts 1 and 2 of its regulation done. -/
def targetFormed (s : State) (e : CellIx) (c : CellCfg) : Cell :=
  formTarget c (inflowRate s e) { s.cell e with regTimer := some (c.interval * Config.secondMs) }

/-- The state after a regulation that drives the cell at that fold-back level with those counts. -/
def regulatedOn (s : State) (e : CellIx) (c : CellCfg) (fold high miss : Nat) : State :=
  let y := { drivenCell c (inflowRate s e) fold (s.cell e) with high := high, miss := miss }
  { s.setCell e y with reports := harvestReported s e c (s.cell e).plated y.plated }

/-- The state after a regulation that faults the cell with those counts. -/
def regulatedToFault (s : State) (e : CellIx) (reason : CellFault) (high miss : Nat) : State :=
  { s.setCell e
      { stoppedCell .fault (s.cell e) with
        fault := reason, inflowRate := inflowRate s e, high := high, miss := miss } with
    reports := s.reports.raise (.alert .cellFault (.cell e) [cellFaultCode reason] s.clock) }

theorem crossed_iff {c : CellCfg} {before after : Nat} :
    crossed c before after = true ↔ c.threshold ≠ 0 ∧ before < c.threshold ∧ c.threshold ≤ after := by
  simp [crossed, and_assoc]

/-- R127: driving a cell stores it with its duty and charge, and reports the harvest that this charge has made due. -/
theorem driveCell_eq (e : CellIx) (c : CellCfg) (x : Cell) (s : State) :
    driveCell e c x s =
      { s.setCell e (plate c (formDuty c x)) with
        reports := harvestReported s e c x.plated (plate c (formDuty c x)).plated } := by
  by_cases h : crossed c x.plated (plate c (formDuty c x)).plated = true
  · rw [driveCell, if_pos h, harvestReported, if_pos (crossed_iff.mp h)]
    rfl
  · rw [driveCell, if_neg h, harvestReported, if_neg (mt crossed_iff.mpr h)]
    rfl

section
variable {s : State} {e : CellIx} {c : CellCfg} {fold high miss : Nat}

/-- R124, R127: parts 4 and 5 make the driven cell of what sensing has left. -/
theorem plate_formDuty_targetFormed :
    plate c (formDuty c { targetFormed s e c with fold := fold, high := high, miss := miss }) =
      { drivenCell c (inflowRate s e) fold (s.cell e) with high := high, miss := miss } := rfl

theorem regulate_of_no_fault
    (h : senseVoltage c (s.point c.voltPoint) (targetFormed s e c) =
      ({ targetFormed s e c with fold := fold, high := high, miss := miss }, .none)) :
    regulate e c s = regulatedOn s e c fold high miss := by
  rw [regulate, ← targetFormed, h]
  exact (driveCell_eq ..).trans (by rw [plate_formDuty_targetFormed]; rfl)

theorem regulate_of_fault {reason : CellFault} (hreason : reason ≠ .none)
    (h : senseVoltage c (s.point c.voltPoint) (targetFormed s e c) =
      ({ targetFormed s e c with high := high, miss := miss }, reason)) :
    regulate e c s = regulatedToFault s e reason high miss := by
  rw [regulate, ← targetFormed, h]
  cases reason with
  | none => exact absurd rfl hreason
  | sulfideRisk => rfl
  | senseLost => rfl

/-- R118: the expiry of the timer of a RUN cell regulates it. -/
theorem exec_regulationTimerExpiry_of_run {ms : Nat} (hlive : s.inReset = false) (hc : (s.cell e).cfg = some c)
    (hrun : (s.cell e).state = .run) (htimer : (s.cell e).regTimer = some ms) :
    exec (.regulationTimerExpiry e) s = .next (regulate e c s) := by
  have hexpired : regulationExpired e s = regulate e c s := by simp [regulationExpired, hc, hrun, htimer]
  exact (live_of_not_inReset hlive _).trans (congrArg _ hexpired)

end

/-- Settles O47: each band of the voltage and each miss, sensed by its own lemma, ends in one of the two ends of a regulation. -/
theorem regulationDrivesOrFaultsTheCell : Obligations.RegulationDrivesOrFaultsTheCell := by
  refine ⟨fun p => usable_iff, fun s e c ms hlive hc hrun htimer => ?_⟩
  have hexec := exec_regulationTimerExpiry_of_run hlive hc hrun htimer
  have hdriven {fold high miss : Nat} (h : senseVoltage c (s.point c.voltPoint) (targetFormed s e c) =
      ({ targetFormed s e c with fold := fold, high := high, miss := miss }, .none)) :
      exec (.regulationTimerExpiry e) s = .next (regulatedOn s e c fold high miss) :=
    hexec.trans (congrArg _ (regulate_of_no_fault h))
  have hfaulted {reason : CellFault} {high miss : Nat} (hreason : reason ≠ .none)
      (h : senseVoltage c (s.point c.voltPoint) (targetFormed s e c) =
        ({ targetFormed s e c with high := high, miss := miss }, reason)) :
      exec (.regulationTimerExpiry e) s = .next (regulatedToFault s e reason high miss) :=
    hexec.trans (congrArg _ (regulate_of_fault hreason h))
  exact ⟨fun hseen hv hfold => hdriven (senseVoltage_of_high_of_fold_lt hseen hv hfold),
    fun hseen hv hfold hhigh => hdriven (senseVoltage_of_high_of_le_fold hseen hv hfold hhigh),
    fun hseen hv hfold hhigh => hfaulted nofun (senseVoltage_of_tenth_high hseen hv hfold hhigh),
    fun hseen hv => hdriven (senseVoltage_of_low hseen hv),
    fun hseen hlow hhigh => hdriven (senseVoltage_of_band hseen hlow hhigh),
    fun hunseen hmiss => hdriven (senseVoltage_of_miss hunseen hmiss),
    fun hunseen hmiss => hfaulted nofun (senseVoltage_of_third_miss hunseen hmiss)⟩

end Sys2Proof.Machine
end

section
/-! PROOF of O48. The target current and the inflow rate of a cell (R119, R120): the rate is a sum over the streams, so a new record of one
stream replaces that stream's summand and no other. -/

namespace Sys2Proof.Machine

/-! ### The target current -/

/-- R120: rounding the product of inflow rate and factor half up, in one division. -/
theorem targetCurrent_eq (c : CellCfg) (rate : Nat) :
    targetCurrent c rate = max c.iMin (min ((2 * (rate * c.factor) + 1024) / 2048) c.iMax) := rfl

section
variable {c : CellCfg} {rate : Nat}

theorem targetCurrent_of_lt (h : (2 * (rate * c.factor) + 1024) / 2048 < c.iMin) : targetCurrent c rate = c.iMin := by
  rw [targetCurrent_eq]
  exact max_eq_left ((min_le_left _ _).trans h.le)

theorem targetCurrent_of_gt (hc : c.iMin ≤ c.iMax) (h : c.iMax < (2 * (rate * c.factor) + 1024) / 2048) :
    targetCurrent c rate = c.iMax := by
  rw [targetCurrent_eq, min_eq_right h.le, max_eq_right hc]

theorem targetCurrent_of_between (hlow : c.iMin ≤ (2 * (rate * c.factor) + 1024) / 2048)
    (hhigh : (2 * (rate * c.factor) + 1024) / 2048 ≤ c.iMax) :
    targetCurrent c rate = (2 * (rate * c.factor) + 1024) / 2048 := by
  rw [targetCurrent_eq, min_eq_left hhigh, max_eq_right hlow]

theorem targetCurrent_zero (c : CellCfg) : targetCurrent c 0 = c.iMin := by
  simp [targetCurrent_eq]

end

/-- R109: the current limits of a loaded cell are in order. -/
theorem CellCfg.InRange.iMin_le_iMax {c : CellCfg} (h : c.InRange) : c.iMin ≤ c.iMax := by
  obtain ⟨-, -, -, -, hle, -⟩ := h
  exact hle

/-! ### The inflow rate -/

section
variable {e : CellIx} {x : Stream}

theorem inflowOf_of_credited (h : CreditedTo e x) : inflowOf e x = x.rate := by
  rw [inflowOf_eq, if_pos (creditsCell_iff.mpr h)]

theorem inflowOf_of_not_credited (h : ¬ CreditedTo e x) : inflowOf e x = 0 := by
  rw [inflowOf_eq, if_neg (mt creditsCell_iff.mp h)]

end

/-- R119: the sum of the rates credited to a cell, before it is held at its bound. -/
def inflowSum (s : State) (e : CellIx) : Nat := ∑ i : StreamIx, inflowOf e (s.stream i)

theorem inflowRate_eq_inflowSum (s : State) (e : CellIx) : inflowRate s e = min (inflowSum s e) 16777215 := by
  rw [inflowRate_eq_sum, inflowSum, Fin.sum_univ_def]

theorem inflowSum_eq_zero {s : State} {e : CellIx} (h : ∀ i, ¬ CreditedTo e (s.stream i)) : inflowSum s e = 0 :=
  Finset.sum_eq_zero fun i _ => inflowOf_of_not_credited (h i)

/-- A new record of stream `i` puts its own summand in the place of the old one. -/
theorem inflowSum_setStream (s : State) (e : CellIx) (i : StreamIx) (x : Stream) :
    inflowSum (s.setStream i x) e + inflowOf e (s.stream i) = inflowSum s e + inflowOf e x := by
  have hrest : ∑ j ∈ Finset.univ.erase i, inflowOf e ((s.setStream i x).stream j) =
      ∑ j ∈ Finset.univ.erase i, inflowOf e (s.stream j) :=
    Finset.sum_congr rfl fun j hj => by rw [State.setStream_stream_ne _ _ _ _ (Finset.ne_of_mem_erase hj)]
  simp only [inflowSum, ← Finset.add_sum_erase Finset.univ _ (Finset.mem_univ i), hrest, State.setStream_stream_self]
  omega

/-- Settles O48: the clamp of the target current case by case, and what one stream's record adds to the sum a cell reads. -/
theorem targetCurrentFollowsTheInflow : Obligations.TargetCurrentFollowsTheInflow := by
  refine ⟨fun c rate hc => ⟨targetCurrent_of_lt, targetCurrent_of_gt hc.iMin_le_iMax, targetCurrent_of_between,
    targetCurrent_zero c⟩, fun s e => ⟨fun hnone => ?none, fun i hold x hnew => ?same, fun i x hold hnew => ?added⟩⟩
  case none => rw [inflowRate_eq_inflowSum, inflowSum_eq_zero hnone]; rfl
  case same =>
    have hsum := inflowSum_setStream s e i x
    rw [inflowOf_of_not_credited hold, inflowOf_of_not_credited hnew] at hsum
    rw [inflowRate_eq_inflowSum, inflowRate_eq_inflowSum, Nat.add_right_cancel hsum]
  case added =>
    have hsum := inflowSum_setStream s e i x
    rw [inflowOf_of_not_credited hold, inflowOf_of_credited hnew] at hsum
    rw [inflowRate_eq_inflowSum, inflowRate_eq_inflowSum]
    omega

end Sys2Proof.Machine
end

section
/-! PROOF of O46. Raising a report (R186, R187): it takes the place of the queued alert of its kind and object, or it joins the queue; a
full queue is decided by the highest class present, of which the oldest entry goes. -/

namespace Sys2Proof.Machine

/-- 10.2: the kinds stand in the list of the class map at their indices. -/
theorem kindIx_eq_idxOf (k : ReportKind) : (kindIx k).val = reportKinds.idxOf k := by cases k <;> rfl

/-- Removing the first element with a property takes out the oldest entry that has it. -/
theorem eraseP_oldest {older younger : List Entry} {e : Entry} {p : Entry → Bool} (hold : ∀ x ∈ older, ¬ p x = true)
    (he : p e = true) : (older ++ e :: younger).eraseP p = older ++ younger := by
  rw [List.eraseP_append_right _ hold, List.eraseP_cons_of_pos he]

/-! ### The highest class present -/

theorem foldl_max_cls_le_iff (es : List Entry) {a m : Nat} :
    es.foldl (fun m e => max m e.cls.val) a ≤ m ↔ a ≤ m ∧ ∀ x ∈ es, x.cls.val ≤ m := by
  induction es generalizing a with
  | nil => simp
  | cons e es ih => simp [ih, and_assoc]

theorem worstClass_le_iff {es : List Entry} {m : Nat} : worstClass es ≤ m ↔ ∀ x ∈ es, x.cls.val ≤ m := by
  simp [worstClass, foldl_max_cls_le_iff]

theorem worstClass_of_mem {es : List Entry} {e : Entry} (he : e ∈ es) (hmax : ∀ x ∈ es, x.cls ≤ e.cls) :
    worstClass es = e.cls.val :=
  le_antisymm (worstClass_le_iff.mpr hmax) (worstClass_le_iff.mp le_rfl e he)

/-! ### Joining the queue -/

section
variable {q : ReportQueue} {new e : Entry} {older younger : List Entry}

theorem joinQueue_of_room (h : q.entries.length < 32) : joinQueue new q = { q with entries := q.entries ++ [new] } := if_pos h

theorem joinQueue_of_displaced (hfull : 32 ≤ q.entries.length) (hq : q.entries = older ++ e :: younger) (hcls : new.cls < e.cls)
    (hmax : ∀ x ∈ q.entries, x.cls ≤ e.cls) (hold : ∀ x ∈ older, x.cls ≠ e.cls) :
    joinQueue new q = { q with entries := older ++ younger ++ [new], gap := true } := by
  have hworst : worstClass q.entries = e.cls.val := worstClass_of_mem (by simp [hq]) hmax
  have herase : q.entries.eraseP (fun x => x.cls.val == e.cls.val) = older ++ younger := by
    rw [hq]
    exact eraseP_oldest (fun x hx => by simpa [Fin.val_inj] using hold x hx) (beq_self_eq_true _)
  rw [joinQueue, if_neg (Nat.not_lt.mpr hfull), hworst, if_pos (Fin.lt_def.mp hcls), herase]

theorem joinQueue_of_dropped (hfull : 32 ≤ q.entries.length) (hmax : ∀ x ∈ q.entries, x.cls ≤ new.cls) :
    joinQueue new q = { q with gap := true } := by
  have hworst : worstClass q.entries ≤ new.cls.val := worstClass_le_iff.mpr hmax
  rw [joinQueue, if_neg (Nat.not_lt.mpr hfull), if_neg (Nat.not_lt.mpr hworst)]

end

/-! ### Coalescing -/

/-- R186: an alert of the report's kind and object is queued. -/
def Coalesces (q : ReportQueue) (r : Report) : Prop :=
  ∃ e ∈ q.entries, (alertKey r).isSome = true ∧ alertKey e.report = alertKey r

section
variable {q : ReportQueue} {r : Report}

theorem coalesces_iff :
    ((alertKey r).isSome && q.entries.any fun e => alertKey e.report = alertKey r) = true ↔ Coalesces q r := by
  simp only [Bool.and_eq_true, List.any_eq_true, decide_eq_true_eq]
  exact ⟨fun ⟨hkey, e, he, heq⟩ => ⟨e, he, hkey, heq⟩, fun ⟨e, he, hkey, heq⟩ => ⟨hkey, e, he, heq⟩⟩

theorem raise_of_coalesces (h : Coalesces q r) : q.raise r = { q with entries := coalesce r q.entries } :=
  if_pos (coalesces_iff.mpr h)

theorem raise_of_not_coalesces (h : ¬ Coalesces q r) :
    q.raise r = joinQueue { report := r, cls := classOf q r } q :=
  if_neg (mt coalesces_iff.mp h)

theorem coalesce_of_other {es : List Entry} (h : ∀ x ∈ es, alertKey x.report ≠ alertKey r) : coalesce r es = es := by
  rw [coalesce, List.map_congr_left fun x hx => if_neg (h x hx), List.map_id']

theorem coalesce_of_only {older younger : List Entry} {e : Entry} (he : alertKey e.report = alertKey r)
    (hother : ∀ x ∈ older ++ younger, alertKey x.report ≠ alertKey r) :
    coalesce r (older ++ e :: younger) = older ++ { report := r, cls := e.cls } :: younger := by
  obtain ⟨holder, hyounger⟩ := List.forall_mem_append.mp hother
  calc coalesce r (older ++ e :: younger)
      = coalesce r older ++ (if alertKey e.report = alertKey r then { e with report := r } else e) :: coalesce r younger := by
        simp only [coalesce, List.map_append, List.map_cons]
    _ = older ++ { report := r, cls := e.cls } :: younger := by
        rw [coalesce_of_other holder, coalesce_of_other hyounger, if_pos he]

end

/-- Settles O46: the replacement of the one queued alert, and the three ways of joining, each by its own lemma. -/
theorem reportsCoalesceOrAreAdmitted : Obligations.ReportsCoalesceOrAreAdmitted := by
  refine ⟨kindIx_eq_idxOf, fun q r => ⟨fun older e younger hq hkey he hother => ?coalesced, fun hnew hroom => ?joined,
    fun older e younger hnew hfull hq hcls hmax hold => ?displaced, fun hnew hfull hmax => ?dropped⟩⟩
  case coalesced =>
    have hqueued : Coalesces q r := ⟨e, by simp [hq], hkey, he⟩
    rw [raise_of_coalesces hqueued, hq, coalesce_of_only he hother]
  case joined => exact (raise_of_not_coalesces hnew).trans (joinQueue_of_room hroom)
  case displaced => exact (raise_of_not_coalesces hnew).trans (joinQueue_of_displaced hfull hq hcls hmax hold)
  case dropped => exact (raise_of_not_coalesces hnew).trans (joinQueue_of_dropped hfull hmax)

end Sys2Proof.Machine
end

section
/-! PROOF of O9. The transmit path (R188, R204, R205): the frames and bodies that the model builds are the layouts of 12.2 and 12.3, and
what starts is decided by the RESULTs that wait and by the lowest-numbered unmasked class that holds an entry. -/

namespace Sys2Proof.Machine

/-! ### Numbers and check codes -/

theorem be_one (x : Nat) : be 1 x = [BitVec.ofNat 8 x] := by simp [be]

/-- R205: the byte at each place of a number, most significant first. -/
theorem be_getElem? {n k : Nat} (x : Nat) (h : k < n) : (be n x)[k]? = some (BitVec.ofNat 8 (x / 256 ^ (n - 1 - k))) := by
  induction n generalizing k with
  | zero => exact absurd h (Nat.not_lt_zero k)
  | succ n ih =>
    cases k with
    | zero => simp [be]
    | succ k =>
      have hplace : n + 1 - 1 - (k + 1) = n - 1 - k := by omega
      rw [be, List.getElem?_cons_succ, ih (Nat.lt_of_succ_lt_succ h), hplace]

/-- R204: one byte goes through the CRC-16 bit by bit. -/
def crc16Byte (r : BitVec 16) (b : Byte) : BitVec 16 := (dividedBit 0x1021)^[8] (r ^^^ (b.setWidth 16 <<< 8))

theorem crc16_eq_foldl (bytes : List Byte) : crc16 bytes = bytes.foldl crc16Byte 65535 := rfl

theorem crc16_append_byte (bytes : List Byte) (b : Byte) : crc16 (bytes ++ [b]) = crc16Byte (crc16 bytes) b := by
  simp [crc16_eq_foldl]

/-- The top bit of a register of 16 bits, read from its number: what a simplifier computes with. -/
theorem dividedBit_eq_of_toNat (polynomial r : BitVec 16) :
    dividedBit polynomial r = if 32768 ≤ r.toNat then r <<< 1 ^^^ polynomial else r <<< 1 := by
  simp [dividedBit, BitVec.msb_eq_decide]

/-- R204: the check value of the CRC-16, over the characters 1 to 9. -/
theorem crc16_check_value : crc16 [49, 50, 51, 52, 53, 54, 55, 56, 57] = 10673 := by
  simp [crc16_eq_foldl, crc16Byte, dividedBit_eq_of_toNat]

/-! ### Layouts -/

@[simp] theorem laidOut_nil : laidOut [] = [] := rfl

@[simp] theorem laidOut_cons (n x : Nat) (fields : List (Nat × Nat)) : laidOut ((n, x) :: fields) = be n x ++ laidOut fields := rfl

@[simp] theorem laidOut_append (a b : List (Nat × Nat)) : laidOut (a ++ b) = laidOut a ++ laidOut b := List.flatMap_append

theorem laidOut_length (fields : List (Nat × Nat)) : (laidOut fields).length = (fields.map Prod.fst).sum := by
  simp [laidOut, List.length_flatMap]

theorem rawBytes_eq (x : Int) : rawBytes x = be 2 (x % 65536).toNat := rfl

theorem clockBytes_eq_laidOut (time : Option ClockTime) : clockBytes time = laidOut (clockFields time) := by
  cases time <;> simp [clockBytes, clockFields]

theorem objectBytes_eq_laidOut (o : AlertObject) : objectBytes o = laidOut [(1, (objectCode o).1), (1, (objectCode o).2)] := by
  cases o <;> rfl

theorem batchBytes_eq_laidOut (b : Batch) : batchBytes b = laidOut (batchLayout b) := by
  have hcause : reworkCauseCode b.cause =
      [ReworkCause.none, .testFailed, .noPermit, .timeout, .overCap, .effluent].idxOf b.cause := by
    cases b.cause <;> rfl
  have houtcome : outcomeCode b.outcome = [BatchOutcome.pending, .released, .reworked].idxOf b.outcome + 1 := by
    cases b.outcome <;> rfl
  simp [batchBytes, batchLayout, hcause, houtcome]

/-- 12.3: the four figures of an alert's detail; those that the kind does not have are 0. -/
theorem detailBytes_eq_laidOut (detail : List Nat) :
    ((detail ++ List.replicate 4 0).take 4).flatMap (be 6) =
      laidOut [(6, detail.getD 0 0), (6, detail.getD 1 0), (6, detail.getD 2 0), (6, detail.getD 3 0)] :=
  match detail with
  | [] => rfl
  | [_] => rfl
  | [_, _] => rfl
  | [_, _, _] => rfl
  | _ :: _ :: _ :: _ :: _ => rfl

/-! ### Frames and their bodies -/

theorem plantFrame_eq_frameOf (kind : Nat) (gap : Bool) (tag : Byte) (body : List Byte) :
    plantFrame kind gap tag body = frameOf (outboundKind kind gap) tag body := by
  have hkind : be 1 (kind + if gap then 128 else 0) = [outboundKind kind gap] := by
    cases gap <;> simp [be_one, outboundKind]
  simp [plantFrame, frameOf, coveredBytes, crcBytes, hkind]

theorem resultBody_eq_layout (r : ResultItem) : resultBody r = resultLayout r := by
  have hcode : codeNumber r.code = resultCodes.idxOf r.code := by cases r.code <;> rfl
  simp [resultBody, resultLayout, flagByte, hcode]

theorem reportFrameKind_eq_layout (e : Entry) : reportFrameKind e.report = (reportLayout e).1 := by
  obtain ⟨r, cls⟩ := e
  cases r <;> rfl

theorem reportBody_eq_layout (e : Entry) : reportBody e = laidOut (reportLayout e).2 := by
  obtain ⟨r, cls⟩ := e
  cases r with
  | alert kind object detail time =>
    simp only [reportBody, detailBytes_eq_laidOut]
    simp [reportLayout, kindIx_eq_idxOf, objectBytes_eq_laidOut, clockBytes_eq_laidOut]
  | batch stage b time =>
    have hstage : stageCode stage = [BatchStage.queued, .rework, .reworked, .released].idxOf stage + 1 := by
      cases stage <;> rfl
    simp [reportBody, reportLayout, hstage, batchBytes_eq_laidOut, clockBytes_eq_laidOut]
  | day permitDay consumed cap released peak time => simp [reportBody, reportLayout, clockBytes_eq_laidOut]
  | mirror point value quality raw time =>
    have hquality : qualityCode quality = [Quality.none, .good, .limited, .stale, .failed].idxOf quality := by
      cases quality <;> rfl
    simp [reportBody, reportLayout, hquality, rawBytes_eq, clockBytes_eq_laidOut]

/-- R205: a clock time takes five bytes, set or unset. -/
theorem clockFields_size (time : Option ClockTime) : ((clockFields time).map Prod.fst).sum = 5 := by cases time <;> rfl

/-- 12.3: the frame kinds of the reports and the sizes of their bodies. -/
theorem reportLayout_size (e : Entry) :
    ((reportLayout e).1, (laidOut (reportLayout e).2).length) ∈ [(66, 33), (67, 41), (68, 25), (69, 13)] := by
  obtain ⟨r, cls⟩ := e
  cases r <;> simp [reportLayout, laidOut_length, clockFields_size, batchLayout]

/-! ### The choice among the classes -/

/-- R188: what a class offers to the transmit path: its oldest entry, unless it is masked. -/
def classOffer (q : ReportQueue) (c : Class) : Option Entry :=
  if q.masks[c] then none else q.entries.find? fun e => e.cls = c

section
variable {q : ReportQueue} {e : Entry} {older younger : List Entry}

theorem nextReport_eq_findSome? (q : ReportQueue) : nextReport q = (List.finRange 4).findSome? (classOffer q) := rfl

theorem classOffer_eq_none {c : Class} (h : ∀ x ∈ q.entries, x.cls = c → q.masks[c] = true) : classOffer q c = none := by
  unfold classOffer
  split
  · rfl
  · next hopen => simpa using fun x hx hc => hopen (h x hx hc)

theorem classOffer_of_oldest (hq : q.entries = older ++ e :: younger) (hold : ∀ x ∈ older, x.cls ≠ e.cls)
    (hopen : q.masks[e.cls] = false) : classOffer q e.cls = some e := by
  rw [classOffer, if_neg (Bool.eq_false_iff.mp hopen), List.find?_eq_some_iff_append]
  exact ⟨decide_eq_true rfl, older, younger, hq, fun x hx => by simpa using hold x hx⟩

theorem nextReport_of_oldest (hq : q.entries = older ++ e :: younger) (hold : ∀ x ∈ older, x.cls ≠ e.cls)
    (hopen : q.masks[e.cls] = false) (hmasked : ∀ x ∈ q.entries, x.cls < e.cls → q.masks[x.cls] = true) :
    nextReport q = some e := by
  obtain ⟨lower, higher, hsplit⟩ := List.append_of_mem (List.mem_finRange e.cls)
  obtain ⟨-, -, hsorted⟩ := List.pairwise_append.mp (hsplit ▸ List.pairwise_lt_finRange 4)
  have hlower : ∀ c ∈ lower, c < e.cls := fun c hc => hsorted c hc e.cls List.mem_cons_self
  rw [nextReport_eq_findSome?, List.findSome?_eq_some_iff]
  refine ⟨lower, e.cls, higher, hsplit, classOffer_of_oldest hq hold hopen, fun c hc => classOffer_eq_none ?_⟩
  rintro x hx rfl
  exact hmasked x hx (hlower _ hc)

theorem nextReport_of_all_masked (h : ∀ x ∈ q.entries, q.masks[x.cls] = true) : nextReport q = none := by
  rw [nextReport_eq_findSome?, List.findSome?_eq_none_iff]
  refine fun c _ => classOffer_eq_none ?_
  rintro x hx rfl
  exact h x hx

theorem dropReport_oldest (hq : q.entries = older ++ e :: younger) (hold : ∀ x ∈ older, x.cls ≠ e.cls) :
    dropReport e q = { q with entries := older ++ younger } := by
  rw [dropReport, hq, eraseP_oldest (fun x hx => by simpa using hold x hx) (decide_eq_true rfl)]

end

/-! ### What starts, and what a sent frame frees -/

section
variable {s : State}

/-- R188, R194: a RESULT starts, with the gap flag in its frame. -/
theorem startResult_eq (r : ResultItem) (rest : List ResultItem) (s : State) :
    startResult r rest s =
      { s with
        port :=
          { s.port with
            results := rest
            holding := s.port.holding && !(r.last && decide (r.origin = .executed ∨ r.origin = .resetOk))
            tx := some { bytes := frameOf (outboundKind 65 s.reports.gap) r.tag (resultLayout r),
                         resetOk := decide (r.origin = .resetOk) } }
        reports := { s.reports with gap := false } } := by
  simp only [startResult, startFrame, endsHolding, plantFrame_eq_frameOf, resultBody_eq_layout, Bool.decide_or]
  rfl

/-- R188: the oldest entry of a class starts, with the gap flag in its frame, and leaves the queue. -/
theorem startReport_eq {e : Entry} {older younger : List Entry} (hq : s.reports.entries = older ++ e :: younger)
    (hold : ∀ x ∈ older, x.cls ≠ e.cls) :
    startReport e s =
      { s with
        port :=
          { s.port with
            tx := some { bytes := frameOf (outboundKind (reportLayout e).1 s.reports.gap) 0 (laidOut (reportLayout e).2),
                         resetOk := false } }
        reports := { s.reports with entries := older ++ younger, gap := false } } := by
  simp only [startReport, startFrame, dropReport_oldest hq hold, plantFrame_eq_frameOf, reportFrameKind_eq_layout,
    reportBody_eq_layout]
  rfl

theorem transmitNext_of_result {r : ResultItem} {rest : List ResultItem} (h : s.port.results = r :: rest) :
    transmitNext s = startResult r rest s := by simp [transmitNext, h]

theorem transmitNext_of_report {e : Entry} (h : s.port.results = []) (hnext : nextReport s.reports = some e) :
    transmitNext s = startReport e s := by simp [transmitNext, h, hnext]

theorem transmitNext_of_nothing (h : s.port.results = []) (hnext : nextReport s.reports = none) : transmitNext s = s := by
  simp [transmitNext, h, hnext]

theorem exec_transmitNextFrame_of_free (hlive : s.inReset = false) (hfree : s.port.tx = none) :
    exec .transmitNextFrame s = .next (transmitNext s) :=
  (live_of_not_inReset hlive _).trans (by rw [hfree]; rfl)

theorem exec_transmitNextFrame_of_busy {f : TxFrame} (hlive : s.inReset = false) (hbusy : s.port.tx = some f) :
    exec .transmitNextFrame s = .next s :=
  (live_of_not_inReset hlive _).trans (by rw [hbusy]; rfl)

theorem exec_plantFrameSent (s : State) : exec .plantFrameSent s = execPlantFrameSent s := rfl

/-- R188: a frame that has been sent, other than RESET_PART's OK, frees the path. -/
theorem exec_plantFrameSent_of_busy {f : TxFrame} (hlive : s.inReset = false) (hbusy : s.port.tx = some f)
    (hf : f.resetOk = false) : exec .plantFrameSent s = .next { s with port := { s.port with tx := none } } := by
  rw [exec_plantFrameSent, execPlantFrameSent, live_of_not_inReset hlive]
  simp [hbusy, hf, State.setPort]

end

/-- Settles O9: a free path by what waits, a busy path, and the bytes of the frames. -/
theorem transmitPathChoosesByUrgency : Obligations.TransmitPathChoosesByUrgency := by
  refine ⟨fun s hlive hfree => ?free, fun s f hlive hbusy => ⟨exec_plantFrameSent_of_busy hlive hbusy,
    exec_transmitNextFrame_of_busy hlive hbusy⟩, reportLayout_size, fun n x => ⟨be_length n x, fun k => be_getElem? x⟩,
    crc16_append_byte, rfl, crc16_check_value⟩
  rw [exec_transmitNextFrame_of_free hlive hfree]
  refine ⟨fun r rest hres => ?result, fun older e younger hnone hq hold hopen hmasked => ?report, fun hnone hmasked => ?nothing⟩
  case result => rw [transmitNext_of_result hres, startResult_eq]
  case report =>
    rw [transmitNext_of_report hnone (nextReport_of_oldest hq hold hopen hmasked), startReport_eq hq hold]
  case nothing => rw [transmitNext_of_nothing hnone (nextReport_of_all_masked hmasked)]

end Sys2Proof.Machine
end


section
/-! SUPPORT for O3 and O57 to O60. What a step keeps, said once: `Moves ctl rel s t` says that `t` has the waiting commands of `s` and
meets every invariant that `s` meets. It is transitive, so an operation moves a state when each of its parts does. The
preconditions that an operation draws from the invariants of the control set queue and of the release queue are asked under `ctl`
and `rel`: what does not rest on them is proved without them. -/

namespace Sys2Proof.Machine

/-- The invariants that a step keeps whatever else holds. -/
structure Keeps (s t : State) : Prop where
  pending : t.pending = s.pending
  reports : ReportsInv s → ReportsInv t
  requests : RequestsInv s → RequestsInv t
  pass : PassInv s → PassInv t
  line : LineInv s → LineInv t
  cells : CellsInv s → CellsInv t
  chains : ChainsInv s → ChainsInv t
  residues : ResiduesInv s → ResiduesInv t
  sums : SumsInv s → SumsInv t

/-- The two queue invariants on which preconditions rest, where they are asked for. -/
structure Sound (ctl rel : Prop) (s : State) : Prop where
  control : ctl → ControlInv s
  release : rel → ReleaseInv s

/-- From a sound state the part comes to a sound one and keeps what `Keeps` lists. -/
structure Moves (ctl rel : Prop) (s t : State) : Prop where
  of_start : Sound ctl rel s → Keeps s t ∧ Sound ctl rel t

variable {ctl rel : Prop} {s t u : State}

theorem Keeps.refl (s : State) : Keeps s s := ⟨rfl, id, id, id, id, id, id, id, id⟩

theorem Keeps.trans (h : Keeps s t) (h' : Keeps t u) : Keeps s u where
  pending := h'.pending.trans h.pending
  reports := h'.reports ∘ h.reports
  requests := h'.requests ∘ h.requests
  pass := h'.pass ∘ h.pass
  line := h'.line ∘ h.line
  cells := h'.cells ∘ h.cells
  chains := h'.chains ∘ h.chains
  residues := h'.residues ∘ h.residues
  sums := h'.sums ∘ h.sums

theorem Moves.refl (s : State) : Moves ctl rel s s := ⟨fun g => ⟨Keeps.refl s, g⟩⟩

theorem Moves.trans (h : Moves ctl rel s t) (h' : Moves ctl rel t u) : Moves ctl rel s u where
  of_start g :=
    have ⟨k, g⟩ := h.of_start g
    have ⟨k', g⟩ := h'.of_start g
    ⟨k.trans k', g⟩

/-- The same with the last move first: what it starts from is read off the state that it ends in. -/
theorem Moves.after (h' : Moves ctl rel t u) (h : Moves ctl rel s t) : Moves ctl rel s u := h.trans h'

/-- A precondition of a move may be drawn from the soundness of the state that it starts from. -/
theorem Moves.of_sound (h : Sound ctl rel s → Moves ctl rel s t) : Moves ctl rel s t := ⟨fun g => (h g).of_start g⟩

/-- A round over a list moves the state when each of its turns does. -/
theorem Moves.foldl {α : Type} {f : State → α → State} (h : ∀ s a, Moves ctl rel s (f s a)) (l : List α) (s : State) :
    Moves ctl rel s (l.foldl f s) := by
  induction l generalizing s with
  | nil => exact .refl s
  | cons a l ih => exact (h s a).trans (ih (f s a))

/-! ### Blocks that no invariant reads -/

theorem moves_setPoint (i : PointIx) (x : Point) : Moves ctl rel s (s.setPoint i x) := ⟨fun g =>
  ⟨⟨rfl, id, id, id, id, id, id, id, id⟩, g.control, g.release⟩⟩

theorem moves_setCurve (i : CurveIx) (x : Curve) : Moves ctl rel s (s.setCurve i x) := ⟨fun g =>
  ⟨⟨rfl, id, id, id, id, id, id, id, id⟩, g.control, g.release⟩⟩

theorem moves_setInterlock (i : InterlockIx) (x : Option Interlock) : Moves ctl rel s (s.setInterlock i x) := ⟨fun g =>
  ⟨⟨rfl, id, id, id, id, id, id, id, id⟩, g.control, g.release⟩⟩

theorem moves_setPin (i : PinIx) (x : Pin) : Moves ctl rel s (s.setPin i x) := ⟨fun g =>
  ⟨⟨rfl, id, id, id, id, id, id, id, id⟩, g.control, g.release⟩⟩

theorem moves_setCounter (i : CounterIx) (x : BitVec 16) : Moves ctl rel s (s.setCounter i x) := ⟨fun g =>
  ⟨⟨rfl, id, id, id, id, id, id, id, id⟩, g.control, g.release⟩⟩

theorem moves_setTimers (x : Timers) : Moves ctl rel s (s.setTimers x) := ⟨fun g =>
  ⟨⟨rfl, id, id, id, id, id, id, id, id⟩, g.control, g.release⟩⟩

/-! ### Records with an invariant of their own -/

theorem moves_setStream {i : StreamIx} {x : Stream} (hres : streamResidues (s.stream i) → streamResidues x)
    (hsum : streamSums (s.stream i) → streamSums x) : Moves ctl rel s (s.setStream i x) := by
  refine ⟨fun g => ?_⟩
  refine ⟨⟨rfl, id, id, id, id, id, id, ?_, ?_⟩, g.control, g.release⟩
  · rintro ⟨h, hrest⟩
    refine ⟨fun j => ?_, hrest⟩
    rw [State.setStream_stream]
    split
    · exact hres (h i)
    · exact h j
  · rintro ⟨h, hrest⟩
    refine ⟨fun j => ?_, hrest⟩
    rw [State.setStream_stream]
    split
    · exact hsum (h i)
    · exact h j

theorem moves_setCell {e : CellIx} {x : Cell} (hinv : cellInv (s.cell e) → cellInv x)
    (hres : (s.cell e).platedResidue ≤ 999 → x.platedResidue ≤ 999) (hsum : cellSums (s.cell e) → cellSums x) :
    Moves ctl rel s (s.setCell e x) := by
  refine ⟨fun g => ?_⟩
  refine ⟨⟨rfl, id, id, id, id, fun h f => ?_, id, ?_, ?_⟩, g.control, g.release⟩
  · rw [State.setCell_cell]
    split
    · exact hinv (h e)
    · exact h f
  · rintro ⟨hi, ht, hk, h⟩
    refine ⟨hi, ht, hk, fun f => ?_⟩
    rw [State.setCell_cell]
    split
    · exact hres (h e)
    · exact h f
  · rintro ⟨hi, ht, hk, h, hrest⟩
    refine ⟨hi, ht, hk, fun f => ?_, hrest⟩
    rw [State.setCell_cell]
    split
    · exact hsum (h e)
    · exact h f

theorem moves_setChain {k : ChainIx} {x : Chain} (hinv : chainInv (s.chain k) → chainInv x)
    (hres : chainResidues (s.chain k) → chainResidues x) (hsum : chainSums (s.chain k) → chainSums x) :
    Moves ctl rel s (s.setChain k x) := by
  refine ⟨fun g => ?_⟩
  refine ⟨⟨rfl, id, id, id, id, id, fun h j => ?_, ?_, ?_⟩, g.control, g.release⟩
  · rw [State.setChain_chain]
    split
    · exact hinv (h k)
    · exact h j
  · rintro ⟨hi, ht, h, hrest⟩
    refine ⟨hi, ht, fun j => ?_, hrest⟩
    rw [State.setChain_chain]
    split
    · exact hres (h k)
    · exact h j
  · rintro ⟨hi, ht, h, hrest⟩
    refine ⟨hi, ht, fun j => ?_, hrest⟩
    rw [State.setChain_chain]
    split
    · exact hsum (h k)
    · exact h j

theorem moves_setAccounts {x : Accounts} (hun : accountSums s.accounts.unrouted → accountSums x.unrouted)
    (hret : accountSums s.accounts.ret → accountSums x.ret) : Moves ctl rel s (s.setAccounts x) := ⟨fun g =>
  ⟨⟨rfl, id, id, id, id, id, id, id, fun ⟨hi, ht, hk, he, h, h', hc⟩ => ⟨hi, ht, hk, he, hun h, hret h', hc⟩⟩,
    g.control, g.release⟩⟩

/-! ### Tanks and the Discharge Controller -/

/-- R174: tank `t` may go to state `st` without breaking the release queue or the one release. -/
def MayEnter (s : State) (t : TankIx) (st : TankState) : Prop :=
  (t ∈ s.disch.queue → st = .queued) ∧ (st = .releasing → ∀ u, (s.tank u).state = .releasing → u = t)

theorem ReleaseInv.not_mem {t : TankIx} (h : ReleaseInv s) (ht : (s.tank t).state ≠ .queued) : t ∉ s.disch.queue :=
  fun hm => ht (h.2.1 t hm)

theorem mayEnter_of_not_mem {t : TankIx} {st : TankState} (h : t ∉ s.disch.queue) (hst : st ≠ .releasing) : MayEnter s t st :=
  ⟨fun hm => absurd hm h, fun hr => absurd hr hst⟩

theorem ReleaseInv.mayEnter_self {t : TankIx} (h : ReleaseInv s) : MayEnter s t (s.tank t).state :=
  ⟨h.2.1 t, fun ht u hu => h.2.2 u t hu ht⟩

theorem moves_setTank {t : TankIx} {x : Tank} (hst : rel → MayEnter s t x.state)
    (hres : tankResidues (s.tank t) → tankResidues x) (hsum : tankSums (s.tank t) → tankSums x) :
    Moves ctl rel s (s.setTank t x) := by
  refine ⟨fun g => ?_⟩
  refine ⟨⟨rfl, id, id, id, id, id, id, ?_, ?_⟩, g.control, fun hrel => ?_⟩
  · rintro ⟨hi, h, hrest⟩
    refine ⟨hi, fun j => ?_, hrest⟩
    rw [State.setTank_tank]
    split
    · exact hres (h t)
    · exact h j
  · rintro ⟨hi, h, hrest⟩
    refine ⟨hi, fun j => ?_, hrest⟩
    rw [State.setTank_tank]
    split
    · exact hsum (h t)
    · exact h j
  · obtain ⟨hq, ho⟩ := hst hrel
    obtain ⟨hnd, hqueued, hone⟩ := g.release hrel
    refine ⟨hnd, fun j hj => ?_, fun j j' hj hj' => ?_⟩
    · rw [State.setTank_tank]
      split
      · next h => exact hq (h ▸ hj)
      · exact hqueued j hj
    · rw [State.setTank_tank] at hj hj'
      split at hj <;> split at hj'
      · next h h' => rw [h, h']
      · next h h' => rw [h, ho hj j' hj']
      · next h h' => rw [h', ho hj' j hj]
      · exact hone j j' hj hj'

/-- A tank that keeps its state. -/
theorem moves_setTank_of_state {t : TankIx} {x : Tank} (hst : x.state = (s.tank t).state)
    (hres : tankResidues (s.tank t) → tankResidues x) (hsum : tankSums (s.tank t) → tankSums x) :
    Moves ctl rel s (s.setTank t x) :=
  .of_sound fun g => moves_setTank (fun hrel => hst ▸ (g.release hrel).mayEnter_self) hres hsum

theorem moves_setDisch {d : Discharge} (hsum : s.disch.consumed ≤ Config.max48 → d.consumed ≤ Config.max48)
    (hq : rel → d.queue.Nodup ∧ ∀ t ∈ d.queue, (s.tank t).state = .queued) : Moves ctl rel s (s.setDisch d) := ⟨fun g =>
  ⟨⟨rfl, id, id, id, id, id, id, id, fun ⟨hi, ht, hk, he, h, h', hc⟩ => ⟨hi, ht, hk, he, h, h', hsum hc⟩⟩,
    g.control, fun hrel => ⟨(hq hrel).1, (hq hrel).2, (g.release hrel).2.2⟩⟩⟩

/-- A change that leaves the release queue. -/
theorem moves_setDisch_of_queue {d : Discharge} (hq : d.queue = s.disch.queue)
    (hsum : s.disch.consumed ≤ Config.max48 → d.consumed ≤ Config.max48) : Moves ctl rel s (s.setDisch d) :=
  .of_sound fun g => moves_setDisch hsum fun hrel => by
    obtain ⟨hnd, hqueued, -⟩ := g.release hrel
    exact hq ▸ ⟨hnd, hqueued⟩

theorem releasing_of_releasingTank {t : TankIx} (h : releasingTank s = some t) : (s.tank t).state = .releasing := by
  simpa using List.find?_some h

theorem not_releasing_of_none (h : releasingTank s = none) (t : TankIx) : (s.tank t).state ≠ .releasing := by
  simpa using List.find?_eq_none.mp h t (List.mem_finRange t)

/-! ### The reports -/

/-- R186: the invariant of the Report Queue, read from the queue alone. -/
def queueInv (q : ReportQueue) : Prop := q.entries.length ≤ 32 ∧ (alertKeys q).Nodup

theorem moves_setReports {q : ReportQueue} (h : queueInv s.reports → queueInv q) : Moves ctl rel s (s.setReports q) := ⟨fun g =>
  ⟨⟨rfl, h, id, id, id, id, id, id, id⟩, g.control, g.release⟩⟩

/-- Entries that leave the queue break nothing. -/
theorem queueInv_of_sublist {q r : ReportQueue} (h : r.entries.Sublist q.entries) (hq : queueInv q) : queueInv r :=
  ⟨h.length_le.trans hq.1, hq.2.sublist (h.filterMap _)⟩

theorem alertKeys_coalesce (r : Report) (q : ReportQueue) :
    alertKeys { q with entries := coalesce r q.entries } = alertKeys q := by
  simp only [alertKeys, coalesce, List.filterMap_map]
  refine List.filterMap_congr fun e _ => ?_
  by_cases h : alertKey e.report = alertKey r <;> simp [h]

/-- An entry of a key that no remaining entry has joins entries that leave room for it. -/
theorem queueInv_append {q r : ReportQueue} {old : List Entry} {e : Entry} (hq : queueInv q) (hold : old.Sublist q.entries)
    (hlen : old.length < 32) (hr : r.entries = old ++ [e]) (hnew : ¬ Coalesces q e.report) : queueInv r := by
  refine ⟨by simp [hr]; omega, ?_⟩
  have hrest : (old.filterMap fun e => alertKey e.report).Nodup := hq.2.sublist (hold.filterMap _)
  rw [alertKeys, hr, List.filterMap_append, List.nodup_append]
  refine ⟨hrest, ?_, fun k hk k' hk' hkk => hnew ?_⟩
  · cases h : alertKey e.report <;> simp [h]
  · obtain ⟨x, hx, hxk⟩ := List.mem_filterMap.mp hk
    have he : alertKey e.report = some k' := by simpa using hk'
    exact ⟨x, hold.subset hx, by simp [he], by rw [hxk, he, hkk]⟩

/-- R186, R187: raising a report keeps the Report Queue's invariant. -/
theorem queueInv_raise (r : Report) {q : ReportQueue} (hq : queueInv q) : queueInv (q.raise r) := by
  by_cases hco : Coalesces q r
  · rw [raise_of_coalesces hco]
    refine ⟨?_, ?_⟩
    · simpa [coalesce] using hq.1
    · rw [alertKeys_coalesce]; exact hq.2
  · rw [raise_of_not_coalesces hco, joinQueue]
    split
    · next hroom => exact queueInv_append hq (List.Sublist.refl _) hroom rfl hco
    split
    · next hfull hworse =>
      refine queueInv_append hq (List.eraseP_sublist) ?_ rfl hco
      have hmem : ∃ x ∈ q.entries, (x.cls.val == worstClass q.entries) = true := by
        by_contra hnone
        push Not at hnone
        have hlt : ∀ x ∈ q.entries, x.cls.val ≤ worstClass q.entries - 1 := fun x hx => by
          have := worstClass_le_iff.mp le_rfl x hx
          have := hnone x hx
          simp at this
          omega
        have := worstClass_le_iff.mpr hlt
        omega
      obtain ⟨x, hx, hxw⟩ := hmem
      have := List.length_eraseP_of_mem (p := fun x => x.cls.val == worstClass q.entries) hx hxw
      have := List.length_pos_of_mem hx
      have := hq.1
      omega
    · exact hq

theorem moves_raise (r : Report) : Moves ctl rel s (raise r s) := moves_setReports (queueInv_raise r)

theorem moves_raiseAlert (k : ReportKind) (o : AlertObject) (d : List Nat) : Moves ctl rel s (raiseAlert k o d s) :=
  moves_raise _

/-! ### The Plant Port -/

/-- A change of the Plant Port that neither lengthens the two bounded queues past four nor raises a part condition while
pass-throughs wait. -/
theorem moves_setPort {p : PlantPort} (hreq : s.port.requests.length ≤ 4 → p.requests.length ≤ 4)
    (hfull : fullAnswers s ≤ 4 → fullAnswers (s.setPort p) ≤ 4)
    (hpass : p.fallback = true ∨ p.safeHold = true → s.port.fallback = true ∨ s.port.safeHold = true ∨ s.line.passQ = []) :
    Moves ctl rel s (s.setPort p) := by
  refine ⟨fun g => ?_⟩
  refine ⟨⟨rfl, id, fun ⟨h, h'⟩ => ⟨hreq h, hfull h'⟩, fun ⟨h, h'⟩ => ⟨h, fun hp => ?_⟩, id, id, id, id, id⟩,
    g.control, g.release⟩
  rcases hpass hp with hf | hh | hq
  · exact h' (.inl hf)
  · exact h' (.inr hh)
  · exact hq

/-- A change of the Plant Port that leaves its queues and its part conditions. -/
theorem moves_setPort_of_eq {p : PlantPort} (hreq : p.requests = s.port.requests) (hres : p.results = s.port.results)
    (hf : p.fallback = s.port.fallback) (hh : p.safeHold = s.port.safeHold) : Moves ctl rel s (s.setPort p) :=
  moves_setPort (by simp [hreq]) (by simp [fullAnswers, hres]) (by rw [hf, hh]; tauto)

/-- R194: results that are no QUEUE_FULL answers join those that wait. -/
theorem moves_pushResults {p : PlantPort} {items : List ResultItem} (hreq : p.requests = s.port.requests)
    (hres : p.results = s.port.results ++ items) (hitems : ∀ r ∈ items, r.origin ≠ .queueFull)
    (hf : p.fallback = s.port.fallback) (hh : p.safeHold = s.port.safeHold) : Moves ctl rel s (s.setPort p) := by
  refine moves_setPort (by simp [hreq]) ?_ (by rw [hf, hh]; tauto)
  have hnone : items.filter (fun r => r.origin = .queueFull) = [] := by simpa using hitems
  simp [fullAnswers, hres, List.filter_append, hnone]

theorem moves_pushItem {r : ResultItem} (h : r.origin ≠ .queueFull) : Moves ctl rel s (pushItem r s) :=
  moves_pushResults (items := [r]) rfl rfl (by simpa using h) rfl rfl

theorem moves_passResult (tag : Byte) (code : Code) (content : List Byte) : Moves ctl rel s (passResult tag code content s) :=
  moves_pushItem nofun

theorem resultParts_origin {tag : Byte} {code : Code} {origin : Origin} {fuel n : Nat} {bs : List Byte} :
    ∀ r ∈ resultParts tag code origin fuel n bs, r.origin = origin := by
  induction fuel generalizing n bs with
  | zero => simp [resultParts]
  | succ fuel ih =>
    rw [resultParts]
    split
    · simp
    · exact List.forall_mem_cons.mpr ⟨rfl, ih⟩

theorem moves_answerWith (tag : Byte) (code : Code) (content : List Byte) : Moves ctl rel s (answerWith tag code content s) :=
  moves_pushResults rfl rfl (fun r hr => by rw [resultParts_origin r hr]; nofun) rfl rfl

theorem moves_answer (tag : Byte) (code : Code) : Moves ctl rel s (answer tag code s) := moves_answerWith tag code []

theorem moves_popRequest : Moves ctl rel s (popRequest s) :=
  moves_setPort (by simp; omega) id (by tauto)

/-! ### The field line -/

/-- A change of the line that keeps each of its invariants. -/
theorem moves_setLine {l : FieldLine} (hpass : l.passQ.length ≤ s.line.passQ.length ∧ (s.line.passQ = [] → l.passQ = []))
    (hline : LineInv s → LineInv (s.setLine l)) (hctl : ctl → ControlInv (s.setLine l)) : Moves ctl rel s (s.setLine l) := ⟨fun g =>
  ⟨⟨rfl, id, id, fun ⟨h, h'⟩ => ⟨hpass.1.trans h, fun hp => hpass.2 (h' hp)⟩, hline, id, id, id, id⟩, hctl, g.release⟩⟩

theorem moves_setHold {h : Hold} (hinv : holdInv s.line.hold → holdInv h)
    (hctl : ctl → ∀ x a, h = .exchange x → x.job = .control a false →
      (s.actuator a).state = .inFlight ∧ FieldBound (s.actuator a)) : Moves ctl rel s (setHold h s) :=
  .of_sound fun g => moves_setLine ⟨le_rfl, id⟩ (fun ⟨hrun, hh, hn⟩ => ⟨hrun, hinv hh, hn⟩) fun hc =>
    have ⟨hnd, hq, _⟩ := g.control hc
    ⟨hnd, hq, hctl hc⟩

theorem moves_setHold_none : Moves ctl rel s (setHold .none s) := moves_setHold (fun _ => trivial) nofun

theorem moves_setHold_quiet : Moves ctl rel s (setHold .quiet s) := moves_setHold (fun _ => trivial) nofun

/-- A change of the line that leaves the counts, the hold and the two set queues. -/
theorem moves_setLine_of_eq {l : FieldLine} (hpass : l.passQ = s.line.passQ) (hq : l.controlQ = s.line.controlQ)
    (hrun : s.line.setRun ≤ 4 → l.setRun ≤ 4) (hhold : l.hold = s.line.hold)
    (hnodes : (∀ n, nodeInv (s.node n)) → ∀ n, nodeInv ((s.setLine l).node n)) : Moves ctl rel s (s.setLine l) :=
  .of_sound fun g => moves_setLine (by simp [hpass])
    (fun ⟨hr, hh, hn⟩ => ⟨hrun hr, by simpa [hhold] using hh, hnodes hn⟩) fun hc => by
      simpa [ControlInv, hq, hhold] using g.control hc

theorem moves_setNode {n : NodeIx} {h : NodeHealth} (hn : nodeInv (s.node n) → nodeInv h) : Moves ctl rel s (s.setNode n h) :=
  moves_setLine_of_eq rfl rfl id rfl fun hall m => by
    change nodeInv ((s.setNode n h).node m)
    rw [State.setNode_node]
    split
    · exact hn (hall n)
    · exact hall m

theorem moves_setScanEntry (i : ScanIx) (x : ScanEntry) : Moves ctl rel s (s.setScanEntry i x) :=
  moves_setLine_of_eq rfl rfl id rfl id

theorem moves_setSetRun {n : Nat} (h : n ≤ 4) : Moves ctl rel s (setSetRun n s) :=
  moves_setLine_of_eq rfl rfl (fun _ => h) rfl id

/-! ### Actuators and the control set queue -/

/-- Nothing on the field line counts on the record of actuator `a`: it does not wait, and no set of it that still counts is
under way. -/
def Aside (s : State) (a : ActIx) : Prop :=
  a ∉ s.line.controlQ ∧ ∀ x, s.line.hold = .exchange x → x.job ≠ .control a false

theorem ControlInv.aside_of_state {a : ActIx} (h : ControlInv s) (hp : (s.actuator a).state ≠ .pending)
    (hf : (s.actuator a).state ≠ .inFlight) : Aside s a :=
  ⟨fun hm => hp (h.2.1 a hm).1, fun x hx hj => hf (h.2.2 x a hx hj).1⟩

theorem ControlInv.aside_of_not_field {a : ActIx} (h : ControlInv s) (hb : ¬ FieldBound (s.actuator a)) : Aside s a :=
  ⟨fun hm => hb (h.2.1 a hm).2, fun x hx hj => hb (h.2.2 x a hx hj).2⟩

theorem moves_setActuator {a : ActIx} {x : Actuator}
    (h : ctl → (a ∈ s.line.controlQ → x.state = .pending ∧ FieldBound x) ∧
      ∀ e, s.line.hold = .exchange e → e.job = .control a false → x.state = .inFlight ∧ FieldBound x) :
    Moves ctl rel s (s.setActuator a x) := by
  refine ⟨fun g => ?_⟩
  refine ⟨⟨rfl, id, id, id, id, id, id, id, id⟩, fun hc => ?_, g.release⟩
  obtain ⟨hq, hh⟩ := h hc
  obtain ⟨hnd, hwait, hfly⟩ := g.control hc
  refine ⟨hnd, fun b hb => ?_, fun e b he hj => ?_⟩
  · rw [State.setActuator_actuator]
    split
    · next hba => exact hq (hba ▸ hb)
    · exact hwait b hb
  · rw [State.setActuator_actuator]
    split
    · next hba => exact hh e he (hba ▸ hj)
    · exact hfly e b he hj

theorem moves_setActuator_of_aside {a : ActIx} {x : Actuator} (h : ctl → Aside s a) : Moves ctl rel s (s.setActuator a x) :=
  moves_setActuator fun hc => ⟨fun hm => absurd hm (h hc).1, fun e he hj => absurd hj ((h hc).2 e he)⟩

/-- A record that keeps its binding and its state. -/
theorem moves_setActuator_of_state {a : ActIx} {x : Actuator} (hst : x.state = (s.actuator a).state)
    (hcfg : x.cfg = (s.actuator a).cfg) : Moves ctl rel s (s.setActuator a x) :=
  .of_sound fun g => moves_setActuator fun hc => by
    have hb : FieldBound x ↔ FieldBound (s.actuator a) := by simp [FieldBound, hcfg]
    rw [hst, hb]
    exact ⟨(g.control hc).2.1 a, fun e => (g.control hc).2.2 e a⟩

theorem moves_enqueue {a : ActIx} (hb : ctl → FieldBound (s.actuator a)) (h : ctl → Aside s a) : Moves ctl rel s (enqueue a s) := by
  refine (moves_setActuator_of_aside (x := { s.actuator a with state := .pending, retry := none }) h).trans ?_
  refine .of_sound fun g => moves_setLine ⟨le_rfl, id⟩ id fun hc => ?_
  obtain ⟨hnd, hwait, hfly⟩ := g.control hc
  refine ⟨List.Nodup.append hnd (by simp) (by simpa using (h hc).1), fun b hm => ?_, hfly⟩
  rcases List.mem_append.mp hm with hm | hm
  · exact hwait b hm
  · rw [List.mem_singleton.mp hm, State.setLine_actuator, State.setActuator_actuator_self]
    exact ⟨rfl, hb hc⟩

theorem moves_dequeue (a : ActIx) : Moves ctl rel s (dequeue a s) :=
  .of_sound fun g => moves_setLine ⟨le_rfl, id⟩ id fun hc =>
    have ⟨hnd, hwait, hfly⟩ := g.control hc
    ⟨hnd.filter _, fun b hb => hwait b (List.mem_of_mem_filter hb), hfly⟩

/-- R78: a waiting actuator that is withdrawn counts for nothing on the line. -/
theorem moves_withdraw {a : ActIx} (h : (s.actuator a).state = .pending) : Moves ctl rel s (withdraw a s) :=
  .of_sound fun g => (moves_dequeue a).trans (moves_setActuator_of_aside fun hc =>
    ⟨by simp [dequeue], fun x hx hj => by simpa [h] using (g.control hc).2.2 x a hx hj⟩)

theorem moves_settleIdle {a : ActIx} (h : ctl → Aside s a) : Moves ctl rel s (settleIdle a s) := moves_setActuator_of_aside h

end Sys2Proof.Machine
end


section
/-! SUPPORT for O3 and O57 to O60. The operations of the Actuator Table, the Measurement Unit, the Tank Controller and the Discharge
Controller move the state: one lemma each, put together from the lemmas of their parts. -/

namespace Sys2Proof.Machine

variable {ctl rel : Prop} {s t : State}

/-! ### Points -/

theorem moves_failPoint (p : PointIx) (cause : FailCause) : Moves ctl rel s (failPoint p cause s) := by
  unfold failPoint
  split
  · exact .refl s
  · exact (moves_setPoint ..).trans (moves_raiseAlert ..)

theorem moves_storeReading (p : PointIx) (v : Nat) (q : Quality) : Moves ctl rel s (storeReading p v q s) := moves_setPoint ..

theorem moves_setRaw (p : PointIx) (raw : Int) : Moves ctl rel s (setRaw p raw s) := moves_setPoint ..

theorem moves_mirror (p : PointIx) : Moves ctl rel s (mirror p s) := by
  unfold mirror
  dsimp only
  split
  · exact moves_raise _
  · exact .refl s

theorem moves_handCounter (p : PointIx) (n k : Nat) : Moves ctl rel s (handCounter p n k s) := by
  unfold handCounter
  dsimp only
  split <;> exact (moves_setRaw ..).trans (moves_storeReading ..)

theorem moves_failNode (n : NodeIx) : Moves ctl rel s (failNode n s) :=
  Moves.foldl (fun s p => by
    split
    · exact moves_failPoint ..
    · exact .refl s) _ s

/-- R40: failing the points of a node changes points and reports alone. -/
theorem failNode_touches (n : NodeIx) (s : State) :
    ∃ points reports, failNode n s = { s with points := points, reports := reports } := by
  unfold failNode
  generalize List.finRange 32 = l
  induction l generalizing s with
  | nil => exact ⟨s.points, s.reports, rfl⟩
  | cons p l ih =>
    rw [List.foldl_cons]
    obtain ⟨points, reports, h⟩ := ih (if onNode n (s.point p) then failPoint p .nodeLost s else s)
    refine ⟨points, reports, h.trans ?_⟩
    unfold failPoint
    split
    · split <;> rfl
    · rfl

/-! ### Actuators -/

/-- R75: a PIN-bound actuator has no FIELD binding. -/
theorem not_fieldBound_of_pin {x : Actuator} {c : ActuatorCfg} {p : PinIx} (h : x.cfg = some c) (hb : c.binding = .pin p) :
    ¬ FieldBound x := by
  rintro ⟨n, ch, safe, hx⟩
  rw [h, Option.some_inj] at hx
  simp [hx] at hb

theorem moves_failUnmapped {a : ActIx} (h : ctl → Aside s a) : Moves ctl rel s (failUnmapped a s) :=
  .after (moves_raiseAlert ..) (moves_setActuator_of_aside h)

theorem moves_applyPin {a : ActIx} (p : PinIx) (h : ctl → Aside s a) : Moves ctl rel s (applyPin a p s) := by
  unfold applyPin
  split
  · exact (moves_setPin ..).trans (moves_setActuator_of_aside h)
  · exact moves_failUnmapped h

/-- R79: an owner request for a FIELD-bound actuator. -/
theorem moves_requestField {a : ActIx} (v : Nat) (hb : FieldBound (s.actuator a)) : Moves ctl rel s (requestField a v s) := by
  unfold requestField
  dsimp only
  refine .trans (t := s.setActuator a { s.actuator a with desired := v }) (moves_setActuator_of_state rfl rfl) ?_
  refine .of_sound fun g => ?_
  have hb' : FieldBound ((s.setActuator a { s.actuator a with desired := v }).actuator a) := by simpa [FieldBound] using hb
  have aside (hp : (s.actuator a).state ≠ .pending) (hf : (s.actuator a).state ≠ .inFlight) (hc : ctl) :
      Aside (s.setActuator a { s.actuator a with desired := v }) a :=
    (g.control hc).aside_of_state (by simpa using hp) (by simpa using hf)
  have enqueued (h : ctl → Aside (s.setActuator a { s.actuator a with desired := v }) a) :=
    moves_enqueue (ctl := ctl) (rel := rel) (fun _ => hb') h
  split
  · next hst =>
    split
    · exact .refl _
    · exact enqueued (aside (by simp [hst]) (by simp [hst]))
  · next hst =>
    split
    · exact moves_withdraw (by simpa using hst)
    · exact .refl _
  · exact .refl _
  · next hst =>
    have hfree := aside (by simp [hst]) (by simp [hst])
    split
    · exact moves_settleIdle hfree
    split
    · exact .refl _
    · exact enqueued hfree
  · next hst =>
    have hfree := aside (by simp [hst]) (by simp [hst])
    split
    · exact moves_settleIdle hfree
    split
    · exact .refl _
    · exact enqueued hfree

/-- R80: a PIN-bound actuator is applied with a desired value. -/
theorem moves_appliedTo {a : ActIx} (p : PinIx) (v : Nat) (h : ¬ FieldBound (s.actuator a)) :
    Moves ctl rel s (applyPin a p (s.setActuator a { s.actuator a with desired := v })) :=
  .after (.of_sound fun g => moves_applyPin p fun hc => (g.control hc).aside_of_not_field (by simpa [FieldBound] using h))
    (moves_setActuator_of_state rfl rfl)

theorem moves_ownerRequest (a : ActIx) (v : Nat) : Moves ctl rel s (ownerRequest a v s) := by
  unfold ownerRequest
  split
  · exact .refl s
  split
  · exact .refl s
  · next n ch safe h => exact moves_requestField v ⟨n, ch, safe, h⟩
  · next p safe h => exact moves_appliedTo p v (not_fieldBound_of_pin h rfl)

theorem moves_takeConfirm {a : ActIx} (v : Nat) (hb : ctl → FieldBound (s.actuator a)) (h : ctl → Aside s a) :
    Moves ctl rel s (takeConfirm a v s) := by
  refine .trans (t := s.setActuator a { s.actuator a with confirmed := some v }) (moves_setActuator_of_aside h) ?_
  unfold takeConfirm
  dsimp only
  split
  · exact moves_settleIdle h
  · exact moves_enqueue (fun hc => by simpa [FieldBound] using hb hc) h

theorem moves_takeRefusal {a : ActIx} (st : ActState) (reason : ActReason) (v : Nat) (hb : ctl → FieldBound (s.actuator a))
    (h : ctl → Aside s a) : Moves ctl rel s (takeRefusal a st reason v s) := by
  refine .trans (t := raiseAlert .actuatorFailed (.actuator a) [actReasonCode reason, v]
    (s.setActuator a { s.actuator a with reason := reason })) ((moves_setActuator_of_aside h).trans (moves_raiseAlert ..)) ?_
  unfold takeRefusal
  dsimp only
  split
  · exact moves_setActuator_of_aside h
  split
  · exact moves_settleIdle h
  · exact moves_enqueue (fun hc => by simpa [FieldBound] using hb hc) h

theorem moves_retryExpired (a : ActIx) : Moves ctl rel s (retryExpired a s) := by
  unfold retryExpired
  dsimp only
  split
  · next hst =>
    refine .of_sound fun g => ?_
    have hfree (hc : ctl) : Aside s a := by
      simp only [Bool.and_eq_true, Bool.or_eq_true, decide_eq_true_eq] at hst
      rcases hst.2 with h | h <;> exact (g.control hc).aside_of_state (by simp [h]) (by simp [h])
    split
    · exact .refl s
    · exact moves_applyPin _ hfree
    · next n ch safe h =>
      split
      · exact moves_settleIdle hfree
      · exact moves_enqueue (fun _ => ⟨n, ch, safe, h⟩) hfree
  · exact .refl s

theorem moves_pinLost {a : ActIx} (h : ctl → Aside s a) : Moves ctl rel s (pinLost a s) :=
  .after (moves_failUnmapped h) (moves_setActuator_of_aside h)

theorem not_fieldBound_of_boundToPin {p : PinIx} {x : Actuator} (h : boundToPin p x = true) : ¬ FieldBound x := by
  obtain ⟨c, hc, hb⟩ := (Option.any_eq_true _ _).mp h
  exact not_fieldBound_of_pin hc (of_decide_eq_true hb)

theorem moves_pinMappingChanged (p : PinIx) (was now : Bool) : Moves ctl rel s (pinMappingChanged p was now s) := by
  unfold pinMappingChanged
  split
  · exact .refl s
  · next a ha =>
    refine .of_sound fun g => ?_
    have hfree (hc : ctl) : Aside s a := (g.control hc).aside_of_not_field (not_fieldBound_of_boundToPin (p := p) (by simpa using List.find?_some ha))
    split
    · exact moves_pinLost hfree
    split
    · exact moves_applyPin p hfree
    · exact .refl s

theorem moves_safeEntry (a : ActIx) : Moves ctl rel s (safeEntry a s) := by
  unfold safeEntry
  dsimp only
  split
  · exact .refl s
  · next p safe h => exact moves_appliedTo p safe (not_fieldBound_of_pin h rfl)
  · next n ch safe h =>
    refine .trans (t := s.setActuator a { s.actuator a with desired := safe }) (moves_setActuator_of_state rfl rfl) ?_
    refine .of_sound fun g => ?_
    have aside (hp : (s.actuator a).state ≠ .pending) (hf : (s.actuator a).state ≠ .inFlight) (hc : ctl) :
        Aside (s.setActuator a { s.actuator a with desired := safe }) a :=
      (g.control hc).aside_of_state (by simpa using hp) (by simpa using hf)
    split
    · split
      · next hst => exact moves_withdraw (by simpa using hst)
      · next hst => exact moves_settleIdle (aside (by simp [hst]) (by simp [hst]))
      · next hst => exact moves_settleIdle (aside (by simp [hst]) (by simp [hst]))
      · exact .refl _
      · exact .refl _
    · exact .refl _

theorem moves_actuatorsSafe : Moves ctl rel s (actuatorsSafe s) := Moves.foldl (fun _ a => moves_safeEntry a) _ s

theorem moves_allSafeConfirm (a : ActIx) : Moves ctl rel s (allSafeConfirm a s) := by
  unfold allSafeConfirm
  dsimp only
  split
  · next n ch safe h =>
    refine .trans (t := s.setActuator a { s.actuator a with confirmed := some safe }) (moves_setActuator_of_state rfl rfl) ?_
    refine .of_sound fun g => ?_
    have hb : FieldBound ((s.setActuator a { s.actuator a with confirmed := some safe }).actuator a) :=
      ⟨n, ch, safe, by simpa using h⟩
    have aside (hp : (s.actuator a).state ≠ .pending) (hf : (s.actuator a).state ≠ .inFlight) (hc : ctl) :
        Aside (s.setActuator a { s.actuator a with confirmed := some safe }) a :=
      (g.control hc).aside_of_state (by simpa using hp) (by simpa using hf)
    split
    · split
      · next hst => exact moves_withdraw (by simpa using hst)
      · next hst => exact moves_settleIdle (aside (by simp [hst]) (by simp [hst]))
      · next hst => exact moves_settleIdle (aside (by simp [hst]) (by simp [hst]))
      · exact .refl _
      · exact .refl _
    · split
      · next hst => exact moves_enqueue (fun _ => hb) (aside (by simp [hst]) (by simp [hst]))
      · next hst => exact moves_enqueue (fun _ => hb) (aside (by simp [hst]) (by simp [hst]))
      · next hst => exact moves_enqueue (fun _ => hb) (aside (by simp [hst]) (by simp [hst]))
      · exact .refl _
      · exact .refl _
  · exact .refl s
  · exact .refl s

theorem moves_actuatorsConfirmed : Moves ctl rel s (actuatorsConfirmed s) := Moves.foldl (fun _ a => moves_allSafeConfirm a) _ s

/-- R76, stage 1: a cleared record is counted on by nothing. -/
theorem ControlInv.aside_clearedLine {a : ActIx} (h : ControlInv s) : Aside (s.setLine (clearedLine s a)) a := by
  refine ⟨?_, ?_⟩
  · simp only [clearedLine, State.setLine_line]
    split
    · simp
    · next hp => exact fun hm => hp (h.2.1 a hm).1
  · intro x hx hj
    simp only [clearedLine, State.setLine_line, voidedHold] at hx
    split at hx
    · split at hx
      · cases hx; cases hj
      · next b v _ =>
        split at hx
        · cases hx; cases hj
        · next hab => cases hx; cases hj; exact hab rfl
      · cases hx; cases hj
    all_goals cases hx

theorem moves_clearActuator (a : ActIx) : Moves ctl rel s (clearActuator a s) := by
  rw [clearActuator_eq]
  refine .of_sound fun g => moves_setLine ⟨le_rfl, id⟩ (fun ⟨hrun, hh, hn⟩ => ⟨hrun, ?_, hn⟩) fun hc => ?_
  · simp only [clearedLine, State.setLine_line, voidedHold]
    split
    · next x hx =>
      rw [hx] at hh
      split
      · exact hh
      · split <;> exact hh
      · exact hh
    all_goals trivial
  · obtain ⟨hnd, hwait, hfly⟩ := g.control hc
    refine ⟨?_, fun b hb => hwait b ?_, fun x b hx hj => ?_⟩
    · simp only [clearedLine, State.setLine_line]
      split
      · exact hnd.filter _
      · exact hnd
    · simp only [clearedLine, State.setLine_line] at hb
      split at hb
      · exact List.mem_of_mem_filter hb
      · exact hb
    · simp only [clearedLine, State.setLine_line, voidedHold] at hx
      split at hx
      · next y hy =>
        split at hx
        · cases hx; cases hj
        · next hjob =>
          split at hx
          · cases hx; cases hj
          · cases hx; cases hj; exact hfly y b hy hjob
        · cases hx; cases hj
      all_goals cases hx

/-- R76: a record that has been cleared takes any content. -/
theorem moves_reload (a : ActIx) (x : Actuator) : Moves ctl rel s ((clearActuator a s).setActuator a x) :=
  .of_sound fun g => (moves_clearActuator a).trans (moves_setActuator_of_aside fun hc => by
    rw [clearActuator_eq]; exact (g.control hc).aside_clearedLine)

theorem moves_unloadActuator (a : ActIx) : Moves ctl rel s (unloadActuator a s) := moves_reload a {}

theorem moves_installActuator (a : ActIx) (c : ActuatorCfg) : Moves ctl rel s (installActuator a c s) := by
  unfold installActuator
  dsimp only
  refine (moves_reload a { cfg := some c, desired := c.safe }).trans (.of_sound fun g => ?_)
  have hfree (hc : ctl) : Aside ((clearActuator a s).setActuator a { cfg := some c, desired := c.safe }) a :=
    (g.control hc).aside_of_state (by simp) (by simp)
  split
  · next n ch hb =>
    refine moves_enqueue (fun _ => ⟨n, ch, c.safe, ?_⟩) hfree
    rw [State.setActuator_actuator_self, ← hb]
  · exact moves_applyPin _ hfree

/-! ### Tanks -/

/-- R150: a change of state with its requests. -/
theorem moves_tankRequest (t : TankIx) : Moves ctl rel s (tankRequest t s) := by
  unfold tankRequest
  split
  · exact .refl s
  · exact ((moves_ownerRequest ..).trans (moves_ownerRequest ..)).trans (moves_ownerRequest ..)

theorem moves_tankGo {t : TankIx} {st : TankState} (h : rel → MayEnter s t st) : Moves ctl rel s (tankGo t st s) :=
  .after (moves_tankRequest t) (moves_setTank h id id)

theorem tankGo_tank (t : TankIx) (st : TankState) (u : TankIx) (s : State) :
    (tankGo t st s).tank u = if u = t then { s.tank t with state := st } else s.tank u := by
  simp [tankGo, State.setTank_tank]

@[simp] theorem tankGo_disch (t : TankIx) (st : TankState) (s : State) : (tankGo t st s).disch = s.disch := by simp [tankGo]

theorem moves_updBatch (t : TankIx) (f : Batch → Batch) : Moves ctl rel s (updBatch t f s) := moves_setTank_of_state rfl id id

theorem moves_raiseBatch (t : TankIx) (stage : BatchStage) : Moves ctl rel s (raiseBatch t stage s) := by
  unfold raiseBatch
  split
  · exact moves_raise _
  · exact .refl s

theorem moves_outletSnapshot (t : TankIx) (c : TankCfg) : Moves ctl rel s (outletSnapshot t c s) :=
  moves_setTank_of_state rfl id id

theorem add48_le (a b : Nat) : add48 a b ≤ Config.max48 := Nat.min_le_right ..

theorem satAdd_le (bound a b : Nat) : satAdd bound a b ≤ bound := Nat.min_le_right ..

theorem moves_creditTank (t : TankIx) (m v : Nat) : Moves ctl rel s (creditTank t m v s) :=
  moves_setTank_of_state rfl id fun _ => ⟨add48_le .., add48_le ..⟩

/-- R138: a credit changes a chain's volume and the loading of its lead, or its unplaced mass. -/
theorem moves_creditChain (k : ChainIx) (m v : Nat) : Moves ctl rel s (creditChain k m v s) := by
  unfold creditChain
  dsimp only
  split
  · exact moves_setChain id id fun ⟨_, hb, hu, hp, _⟩ => ⟨add48_le .., hb, hu, hp, satAdd_le ..⟩
  split
  · exact moves_setChain id id fun ⟨ha, _, hu, hp, _⟩ => ⟨ha, add48_le .., hu, hp, satAdd_le ..⟩
  · exact moves_setChain id id fun ⟨ha, hb, _, hp, _⟩ => ⟨ha, hb, add48_le .., hp, satAdd_le ..⟩

theorem moves_creditReturn (m v : Nat) : Moves ctl rel s (creditReturn m v s) :=
  moves_setAccounts id fun _ => ⟨add48_le .., add48_le ..⟩

theorem moves_creditUnrouted (m v : Nat) : Moves ctl rel s (creditUnrouted m v s) :=
  moves_setAccounts (fun _ => ⟨add48_le .., add48_le ..⟩) id

theorem moves_creditRework (d : ReworkDest) (m v : Nat) : Moves ctl rel s (creditRework d m v s) := by
  cases d
  · exact moves_creditChain ..
  · exact moves_creditReturn ..

/-- R162: a tank that stands in no release queue may enter REWORK. -/
theorem moves_reworkState {t : TankIx} (cause : ReworkCause) (h : rel → t ∉ s.disch.queue) :
    Moves ctl rel s (reworkState t cause s) := by
  unfold reworkState
  split
  · exact .refl s
  · next c _ =>
    refine .after (moves_tankGo fun hr => mayEnter_of_not_mem (h hr) nofun) ?_
    exact .after (moves_setTank_of_state rfl id id) (.after (moves_outletSnapshot t c) (moves_updBatch ..))

theorem moves_reworkReports (t : TankIx) (cause : ReworkCause) : Moves ctl rel s (reworkReports t cause s) :=
  (moves_raiseAlert ..).trans (moves_raiseBatch ..)

theorem moves_enterRework {t : TankIx} (cause : ReworkCause) (h : rel → t ∉ s.disch.queue) :
    Moves ctl rel s (enterRework t cause s) := (moves_reworkState cause h).trans (moves_reworkReports t cause)

theorem moves_toTesting {t : TankIx} (c : TankCfg) (h : rel → t ∉ s.disch.queue) : Moves ctl rel s (toTesting t c s) :=
  .after (moves_tankGo fun hr => mayEnter_of_not_mem (h hr) nofun) (moves_setTank_of_state rfl id id)

theorem moves_openBatch (t : TankIx) : Moves ctl rel s (openBatch t s) :=
  moves_setTank_of_state rfl (fun _ => ⟨Nat.zero_le _, Nat.zero_le _⟩) fun _ => ⟨Nat.zero_le _, Nat.zero_le _⟩

theorem moves_closeOfFill {t : TankIx} (c : TankCfg) (h : rel → t ∉ s.disch.queue) : Moves ctl rel s (closeOfFill t c s) := by
  unfold closeOfFill
  dsimp only
  refine .after ?_ (moves_openBatch t)
  split
  · exact moves_toTesting c h
  · exact .after (moves_tankGo fun hr => mayEnter_of_not_mem (h hr) nofun) (moves_setTank_of_state rfl id id)

/-- R160: a tank that stands in no release queue joins it once it is QUEUED. -/
theorem moves_toQueued {t : TankIx} (h : rel → t ∉ s.disch.queue) : Moves ctl rel s (toQueued t s) := by
  refine .after (moves_raiseBatch ..) (.after (.of_sound fun g => moves_setDisch id fun hr => ?_)
    (moves_tankGo fun hr => mayEnter_of_not_mem (h hr) nofun))
  obtain ⟨hnd, hqueued, -⟩ := g.release hr
  refine ⟨List.Nodup.append hnd (by simp) (by simpa using h hr), fun u hu => ?_⟩
  rcases List.mem_append.mp hu with hu | hu
  · exact hqueued u hu
  · rw [List.mem_singleton.mp hu, tankGo_tank, if_pos rfl]

theorem beginDecision_disch (t : TankIx) (c : TankCfg) (s : State) : (beginDecision t c s).disch = s.disch := by
  simp [beginDecision, updBatch]

theorem moves_testDecision {t : TankIx} (c : TankCfg) (h : rel → t ∉ s.disch.queue) : Moves ctl rel s (testDecision t c s) := by
  have hbegin : Moves ctl rel s (beginDecision t c s) := .after (moves_updBatch ..) (moves_setTank_of_state rfl id id)
  unfold testDecision
  dsimp only
  split
  · exact hbegin
  · split
    · exact hbegin.trans (moves_toQueued (by simpa [beginDecision_disch] using h))
    · exact hbegin.trans (moves_enterRework _ (by simpa [beginDecision_disch] using h))

theorem moves_countsComplete {t : TankIx} (c : TankCfg) (h : rel → t ∉ s.disch.queue) : Moves ctl rel s (countsComplete t c s) := by
  unfold countsComplete
  split
  · exact moves_testDecision c h
  · exact moves_setTank_of_state rfl id id

theorem moves_afterSample {t : TankIx} (c : TankCfg) (h : rel → t ∉ s.disch.queue) : Moves ctl rel s (afterSample t c s) := by
  unfold afterSample
  split
  · exact moves_countsComplete c h
  · exact .refl s

theorem moves_testSample (p : PointIx) (v : Nat) (t : TankIx) : Moves ctl rel s (testSample p v t s) := by
  unfold testSample
  split
  · exact .refl s
  split
  · next hst =>
    refine .of_sound fun g => ?_
    have hq (hr : rel) : t ∉ s.disch.queue := (g.release hr).not_mem (by simp [hst])
    split
    · exact .after (moves_afterSample _ hq) (moves_setTank_of_state rfl id id)
    split
    · exact .after (moves_afterSample _ hq) (moves_setTank_of_state rfl id id)
    · exact .refl s
  · exact .refl s

theorem moves_testSamples (p : PointIx) (v : Nat) : Moves ctl rel s (testSamples p v s) :=
  Moves.foldl (fun _ t => moves_testSample p v t) _ s

/-! ### The Discharge Controller -/

theorem moves_alertLow : Moves ctl rel s (alertLow s) := by
  unfold alertLow
  split
  · exact .after (moves_setDisch_of_queue rfl id) (moves_raiseAlert ..)
  · exact .refl s

theorem moves_alertExhausted : Moves ctl rel s (alertExhausted s) := by
  unfold alertExhausted
  split
  · exact .after (moves_setDisch_of_queue rfl id) (moves_raiseAlert ..)
  · exact .refl s

theorem moves_budgetAlerts : Moves ctl rel s (budgetAlerts s) := moves_alertLow.trans moves_alertExhausted

theorem moves_consume (m : Nat) : Moves ctl rel s (consume m s) := by
  unfold consume
  split
  · exact .refl s
  · exact .after moves_budgetAlerts (moves_setDisch_of_queue rfl fun _ => add48_le ..)

theorem moves_raiseStopped (t : TankIx) (cause : StopCause) : Moves ctl rel s (raiseStopped t cause s) := moves_raiseAlert ..

/-- R174, R179: a tank of no release queue goes to its head, QUEUED. -/
theorem moves_requeue {t : TankIx} (h : rel → t ∉ s.disch.queue) : Moves ctl rel s (requeue t s) := by
  have hstate : Moves ctl rel s (s.setTank t { s.tank t with state := .queued }) :=
    moves_setTank (fun hr => mayEnter_of_not_mem (h hr) nofun) id id
  refine .after (moves_tankRequest t) (hstate.trans (.of_sound fun g => moves_setDisch
    (d := { s.disch with queue := t :: s.disch.queue }) id fun hr => ?_))
  obtain ⟨hnd, hqueued, -⟩ := g.release hr
  exact ⟨List.nodup_cons.mpr ⟨h hr, hnd⟩, List.forall_mem_cons.mpr ⟨by simp, hqueued⟩⟩

theorem moves_stopRelease (cause : StopCause) : Moves ctl rel s (stopRelease cause s) := by
  unfold stopRelease
  split
  · exact .refl s
  · next t ht =>
    refine .of_sound fun g => ?_
    have hq (hr : rel) : t ∉ s.disch.queue := (g.release hr).not_mem (by simp [releasing_of_releasingTank ht])
    cases cause with
    | effluent => exact ((moves_reworkState _ hq).trans (moves_raiseStopped ..)).trans (moves_reworkReports ..)
    | _ => exact (moves_requeue hq).trans (moves_raiseStopped ..)

theorem moves_deliverDrain (m : Nat) : Moves ctl rel s (deliverDrain m s) := by
  unfold deliverDrain
  dsimp only
  split
  · exact (moves_consume m).trans (moves_stopRelease _)
  · exact moves_consume m

theorem moves_drainFailed (a : ActIx) : Moves ctl rel s (drainFailed a s) := by
  unfold drainFailed
  split
  · split
    · exact .refl s
    · split
      · exact moves_stopRelease _
      · exact .refl s
  · exact .refl s

theorem moves_rollover (old new : Nat) : Moves ctl rel s (rollover old new s) :=
  .after (moves_setDisch_of_queue rfl fun _ => Nat.zero_le _) (moves_raise _)

theorem moves_recomputeDay : Moves ctl rel s (recomputeDay s) := by
  unfold recomputeDay
  split
  · split
    · exact .refl s
    · exact moves_rollover ..
  · exact moves_setDisch_of_queue rfl id

theorem moves_countClock : Moves ctl rel s (countClock s) := by
  unfold countClock
  split
  · exact .refl s
  · exact .after moves_recomputeDay (moves_setDisch_of_queue rfl id)

theorem moves_breakCaps (p : PointIx) (v limit : Nat) : Moves ctl rel s (breakCaps p v limit s) :=
  .after (moves_stopRelease _) (moves_raiseAlert ..)

theorem moves_effluentSilver (c : PermitCfg) (p : PointIx) (v : Nat) : Moves ctl rel s (effluentSilver c p v s) := by
  refine .trans (t := s.setDisch { s.disch with peak := max s.disch.peak v }) (moves_setDisch_of_queue rfl id) ?_
  unfold effluentSilver
  dsimp only
  split
  · exact moves_breakCaps ..
  · exact .refl _

theorem moves_effluentPh (c : PermitCfg) (p : PointIx) (v : Nat) : Moves ctl rel s (effluentPh c p v s) := by
  unfold effluentPh
  split
  · exact moves_breakCaps ..
  split
  · exact moves_breakCaps ..
  · exact .refl s

theorem moves_effluentReading (p : PointIx) (v : Nat) : Moves ctl rel s (effluentReading p v s) := by
  unfold effluentReading
  split
  · exact .refl s
  · next c _ =>
    dsimp only
    have hsilver : Moves ctl rel s (if c.silverPoint = p then effluentSilver c p v s else s) := by
      split
      · exact moves_effluentSilver ..
      · exact .refl s
    refine hsilver.trans ?_
    generalize (if c.silverPoint = p then effluentSilver c p v s else s) = s
    split
    · exact moves_effluentPh ..
    · exact .refl s

theorem moves_handOn (p : PointIx) (v : Nat) : Moves ctl rel s (handOn p v s) :=
  (moves_testSamples p v).trans (moves_effluentReading p v)

theorem moves_takeCounter (p : PointIx) (n k : Nat) : Moves ctl rel s (takeCounter p n k s) :=
  (moves_handCounter p n k).trans (moves_handOn ..)

end Sys2Proof.Machine
end


section
/-! SUPPORT for O3 and O57 to O60. The field line, the cells, chains and streams, the requests and the resets move the state, and so does
every row of the table. -/

namespace Sys2Proof.Machine

variable {ctl rel : Prop} {s t : State}

/-! ### The end of a transaction -/

theorem nodeReplied_touches (n : NodeIx) (kind : Nat) (s : State) :
    ∃ reports nodes, nodeReplied n kind s = { s with reports := reports, line := { s.line with nodes := nodes } } := by
  unfold nodeReplied
  dsimp only
  split
  · exact ⟨_, _, rfl⟩
  · exact ⟨s.reports, _, rfl⟩

theorem nodeFailed_touches (n : NodeIx) (reason : FailReason) (s : State) :
    ∃ points reports nodes, nodeFailed n reason s =
      { s with points := points, reports := reports, line := { s.line with nodes := nodes } } := by
  unfold nodeFailed
  dsimp only
  split
  · exact ⟨s.points, s.reports, _, rfl⟩
  split
  · exact ⟨s.points, s.reports, _, rfl⟩
  · obtain ⟨points, reports, h⟩ := failNode_touches n
      (raiseAlert .nodeLost (.node n) [failReasonCode reason] (s.setNode n { state := .lost, count := 3, reason := some reason }))
    exact ⟨points, reports, _, h⟩

theorem moves_nodeReplied (n : NodeIx) (kind : Nat) : Moves ctl rel s (nodeReplied n kind s) := by
  have hset : Moves ctl rel s (s.setNode n { s.node n with state := .online, count := 0 }) := moves_setNode fun _ => rfl
  unfold nodeReplied
  dsimp only
  split
  · exact hset.trans (moves_raiseAlert ..)
  · exact hset

theorem moves_nodeFailed (n : NodeIx) (reason : FailReason) : Moves ctl rel s (nodeFailed n reason s) := by
  unfold nodeFailed
  dsimp only
  split
  · exact moves_setNode id
  split
  · next h =>
    refine moves_setNode fun _ => ?_
    change (s.node n).count + 1 = 1 ∨ (s.node n).count + 1 = 2
    omega
  · exact .after (moves_failNode n) (.after (moves_raiseAlert ..) (moves_setNode fun _ => rfl))

/-- R81, R82: at the end of a control set that still counts, its actuator is FIELD-bound and nothing on the line counts on its record. -/
theorem ControlInv.at_end {x : Exchange} {a : ActIx} (h : ControlInv s) (hx : s.line.hold = .exchange x)
    (hj : x.job = .control a false) (hacts : t.actuators = s.actuators) (hq : t.line.controlQ = s.line.controlQ)
    (hh : t.line.hold = .none) : Aside t a ∧ FieldBound (t.actuator a) := by
  obtain ⟨hst, hb⟩ := h.2.2 x a hx hj
  have hact : t.actuator a = s.actuator a := by simp [State.actuator, hacts]
  refine ⟨⟨fun hm => ?_, fun y hy => by simp [hh] at hy⟩, hact ▸ hb⟩
  rw [hq] at hm
  simp [(h.2.1 a hm).1] at hst

theorem moves_scanOutcome (i : ScanIx) (rewritten : Bool) (o : ScanOutcome) : Moves ctl rel s (scanOutcome i rewritten o s) := by
  unfold scanOutcome
  split
  · exact .refl s
  · exact moves_setScanEntry ..

theorem moves_controlRefused {a : ActIx} {void : Bool} (st : ActState) (reason : ActReason) (v : Nat)
    (h : void = false → ctl → Aside s a ∧ FieldBound (s.actuator a)) :
    Moves ctl rel s (controlRefused a void st reason v s) := by
  unfold controlRefused
  split
  · exact .refl s
  · next hv =>
    have hv : void = false := by simpa using hv
    exact .after (moves_drainFailed a) (moves_takeRefusal st reason v (fun hc => (h hv hc).2) fun hc => (h hv hc).1)

theorem moves_setRaw_failPoint (p : PointIx) (raw : Int) (cause : FailCause) : Moves ctl rel s (failPoint p cause (setRaw p raw s)) :=
  .after (moves_failPoint ..) (moves_setRaw ..)

theorem moves_acceptReading (p : PointIx) (v : Nat) (q : Quality) : Moves ctl rel s (acceptReading p v q s) :=
  .after (moves_handOn ..) (.after (moves_mirror p) (moves_storeReading ..))

theorem moves_takeRaw (p : PointIx) (raw : Int) : Moves ctl rel s (takeRaw p raw s) := by
  unfold takeRaw
  split
  · exact .refl s
  · dsimp only
    split
    · exact moves_setRaw_failPoint ..
    · exact .after (moves_acceptReading ..) (moves_setRaw ..)

theorem moves_deliverReading (p : PointIx) (n : NodeIx) (ch : Channel) (raw : Int) (fault : Bool) :
    Moves ctl rel s (deliverReading p n ch raw fault s) := by
  unfold deliverReading
  split
  · split
    · exact moves_setRaw_failPoint ..
    · exact moves_takeRaw ..
  · exact .refl s

section
variable {x : Exchange}

theorem moves_endFailed (reason : FailReason) (hx : s.line.hold = .exchange x) : Moves ctl rel s (endFailed x reason s) := by
  obtain ⟨points, reports, nodes, ht⟩ := nodeFailed_touches x.node reason (setHold .none s)
  have hbefore : Moves ctl rel s (nodeFailed x.node reason (setHold .none s)) := .after (moves_nodeFailed ..) moves_setHold_none
  unfold endFailed
  dsimp only
  split
  · exact .after (moves_scanOutcome ..) hbefore
  · next a void hj =>
    refine .of_sound fun g => .after (moves_controlRefused _ _ _ ?_) hbefore
    rintro rfl hc
    exact (g.control hc).at_end hx hj (by rw [ht]; rfl) (by rw [ht]; rfl) (by rw [ht]; rfl)
  · exact .after (moves_passResult ..) hbefore

theorem moves_endReading (raw : Int) (fault : Bool) : Moves ctl rel s (endReading x raw fault s) := by
  have hbefore : Moves ctl rel s (nodeReplied x.node 1 (setHold .none s)) := .after (moves_nodeReplied ..) moves_setHold_none
  unfold endReading
  dsimp only
  split
  · exact .after (moves_deliverReading ..) (.after (moves_scanOutcome ..) hbefore)
  · exact hbefore
  · exact hbefore

theorem moves_endConfirm (v : Nat) (hx : s.line.hold = .exchange x) : Moves ctl rel s (endConfirm x v s) := by
  obtain ⟨reports, nodes, ht⟩ := nodeReplied_touches x.node 2 (setHold .none s)
  have hbefore : Moves ctl rel s (nodeReplied x.node 2 (setHold .none s)) := .after (moves_nodeReplied ..) moves_setHold_none
  unfold endConfirm
  dsimp only
  split
  · exact hbefore
  · next a void hj =>
    split
    · exact hbefore
    · next hv =>
      rw [Bool.not_eq_true] at hv
      refine .of_sound fun g => .after ?_ hbefore
      have hend (hc : ctl) : Aside (nodeReplied x.node 2 (setHold .none s)) a ∧
          FieldBound ((nodeReplied x.node 2 (setHold .none s)).actuator a) :=
        (g.control hc).at_end hx (hv ▸ hj) (by rw [ht]; rfl) (by rw [ht]; rfl) (by rw [ht]; rfl)
      exact moves_takeConfirm v (fun hc => (hend hc).2) fun hc => (hend hc).1
  · exact .after (moves_passResult ..) hbefore

theorem moves_endRefused (reason : ActReason) (hx : s.line.hold = .exchange x) : Moves ctl rel s (endRefused x reason s) := by
  obtain ⟨reports, nodes, ht⟩ := nodeReplied_touches x.node 2 (setHold .none s)
  have hbefore : Moves ctl rel s (nodeReplied x.node 2 (setHold .none s)) := .after (moves_nodeReplied ..) moves_setHold_none
  unfold endRefused
  dsimp only
  split
  · exact hbefore
  · next a void hj =>
    refine .of_sound fun g => .after (moves_controlRefused _ _ _ ?_) hbefore
    rintro rfl hc
    exact (g.control hc).at_end hx hj (by rw [ht]; rfl) (by rw [ht]; rfl) (by rw [ht]; rfl)
  · exact .after (moves_passResult ..) hbefore

/-- A transaction that goes on, in another phase and with its counts in their ranges. -/
theorem moves_setHold_exchange {y : Exchange} (hx : s.line.hold = .exchange x) (hj : y.job = x.job)
    (hinv : x.holdoffs ≤ 3 ∧ x.silents ≤ 1 → y.holdoffs ≤ 3 ∧ y.silents ≤ 1) : Moves ctl rel s (setHold (.exchange y) s) :=
  .of_sound fun g => moves_setHold (by rw [hx]; exact hinv) fun hc z a hz hzj => by
    cases hz
    exact (g.control hc).2.2 x a hx (hj ▸ hzj)

theorem moves_silentAttempt (hx : s.line.hold = .exchange x) : Moves ctl rel s (silentAttempt x s) := by
  unfold silentAttempt
  split
  · exact moves_setHold_exchange hx rfl fun h => ⟨h.1, le_rfl⟩
  · exact moves_endFailed _ hx

theorem moves_takeHoldoff (hx : s.line.hold = .exchange x) : Moves ctl rel s (takeHoldoff x s) := by
  unfold takeHoldoff
  split
  · next h3 => exact moves_setHold_exchange hx rfl fun h => ⟨h3, h.2⟩
  · exact moves_endFailed _ hx

theorem moves_takeFrame (frame : List Byte) (hx : s.line.hold = .exchange x) : Moves ctl rel s (takeFrame x frame s) := by
  unfold takeFrame
  split
  · exact moves_silentAttempt hx
  · exact moves_endReading ..
  · exact moves_endConfirm _ hx
  · exact moves_endRefused _ hx
  · exact moves_takeHoldoff hx

/-! ### ALL-SAFE and the scheduler -/

theorem setHold_abandon (h : Hold) (s : State) : setHold h (abandon x s) = abandon x (setHold h s) := by
  unfold abandon
  split
  · split <;> rfl
  · split <;> rfl
  · rfl

/-- R72: a transaction that no longer holds the line is abandoned; its actuator goes to the head of the queue. -/
theorem moves_abandon (hjob : ∀ a, x.job = .control a false → ctl → Aside s a ∧ FieldBound (s.actuator a)) :
    Moves ctl rel s (abandon x s) := by
  unfold abandon
  split
  · split
    · exact .refl s
    · exact moves_setScanEntry ..
  · next a void hj =>
    split
    · exact .refl s
    · next hv =>
      rw [Bool.not_eq_true] at hv
      have hfree := hjob a (hv ▸ hj)
      have hset : Moves ctl rel s (s.setActuator a { s.actuator a with state := .pending }) :=
        moves_setActuator_of_aside fun hc => (hfree hc).1
      refine hset.trans (.of_sound fun g => moves_setLine ⟨le_rfl, id⟩ id fun hc => ?_)
      obtain ⟨⟨hq, hh⟩, hb⟩ := hfree hc
      obtain ⟨hnd, hwait, hfly⟩ := g.control hc
      refine ⟨List.nodup_cons.mpr ⟨hq, hnd⟩, List.forall_mem_cons.mpr ⟨?_, hwait⟩, hfly⟩
      simpa [FieldBound] using hb
  · exact moves_passResult ..

theorem moves_setHold_abandon {h : Hold} (hx : s.line.hold = .exchange x) (hh : h = .none ∨ h = .quiet) :
    Moves ctl rel s (setHold h (abandon x s)) := by
  rw [setHold_abandon]
  have hfree : ∀ y, h ≠ .exchange y := by rcases hh with rfl | rfl <;> nofun
  refine .of_sound fun g => .after (moves_abandon fun a hj hc => ?_) ?_
  · obtain ⟨hst, hb⟩ := (g.control hc).2.2 x a hx hj
    refine ⟨⟨fun hm => ?_, fun y hy => absurd hy (hfree y)⟩, hb⟩
    rw [((g.control hc).2.1 a hm).1] at hst
    cases hst
  · rcases hh with rfl | rfl
    · exact moves_setHold_none
    · exact moves_setHold_quiet

end

theorem moves_raiseAllSafe : Moves ctl rel s (raiseAllSafe s) := by
  have hset : Moves ctl rel s (s.setLine { s.line with allSafePending := true }) := moves_setLine_of_eq rfl rfl id rfl id
  unfold raiseAllSafe
  dsimp only
  split
  · next x hx =>
    split
    · exact hset
    · exact hset.trans (moves_setHold_abandon hx (.inr rfl))
    · exact hset.trans (moves_setHold_abandon hx (.inl rfl))
    · exact hset.trans (moves_setHold_abandon hx (.inl rfl))
  · exact hset

theorem runAfterSet_le (s : State) : runAfterSet s ≤ 4 := by
  unfold runAfterSet
  split
  · exact satAdd_le ..
  · exact Nat.zero_le _

/-- A transaction that starts and is no control set. -/
theorem moves_startExchange {job : Job} (n : NodeIx) (ch : Channel) (v : Nat) (h : ∀ a, job ≠ .control a false) :
    Moves ctl rel s (startExchange job n ch v s) :=
  moves_setHold (fun _ => ⟨Nat.zero_le _, Nat.zero_le _⟩) fun _ y a hy hj => by cases hy; exact absurd hj (h a)

theorem moves_startPoll (i : ScanIx) : Moves ctl rel s (startPoll i s) := by
  unfold startPoll
  split
  · exact .refl s
  · split
    · exact .refl s
    · exact .after (moves_startExchange _ _ _ nofun) (.after (moves_setSetRun (Nat.zero_le _)) (moves_setScanEntry ..))

theorem moves_startDue : Moves ctl rel s (startDue s) := by
  unfold startDue
  split
  · exact moves_startPoll _
  · exact .refl s

/-- R65: on a free line the control set of a waiting actuator starts: it leaves the queue and is IN_FLIGHT. -/
theorem moves_startControl (a : ActIx) (hh : s.line.hold = .none) : Moves ctl rel s (startControl a s) := by
  unfold startControl
  dsimp only
  split
  · next n ch safe hcfg =>
    have hfree : Aside (dequeue a s) a := ⟨by simp [dequeue], fun x hx => by simp [dequeue, hh] at hx⟩
    have hset : Moves ctl rel s ((dequeue a s).setActuator a { (dequeue a s).actuator a with state := .inFlight }) :=
      (moves_dequeue a).trans (moves_setActuator_of_aside fun _ => hfree)
    refine .after (moves_setHold (fun _ => ⟨Nat.zero_le _, Nat.zero_le _⟩) fun _ y b hy hj => ?_)
      (.after (moves_setSetRun (runAfterSet_le s)) hset)
    cases hy
    cases hj
    refine ⟨?_, n, ch, safe, ?_⟩ <;> simp only [setSetRun, State.setLine_actuator, State.setActuator_actuator_self]
    exact hcfg
  · exact moves_dequeue a

theorem moves_choosePass (l : List PassEntry) (h : s.line.passQ = l) : Moves ctl rel s (choosePass l s) := by
  induction l generalizing s with
  | nil => exact moves_startDue
  | cons e rest ih =>
    have hset : Moves ctl rel s (s.setLine { s.line with passQ := rest }) :=
      .of_sound fun g => moves_setLine (by simp [h]) id fun hc => g.control hc
    unfold choosePass
    dsimp only
    split
    · exact (hset.trans (moves_passResult ..)).trans (ih rfl)
    · exact .after (moves_startExchange _ _ _ nofun) (.after (moves_setSetRun (runAfterSet_le _)) hset)

theorem moves_schedule (hh : s.line.hold = .none) : Moves ctl rel s (schedule s) := by
  unfold schedule
  split
  · exact .of_sound fun g => moves_setLine ⟨le_rfl, id⟩ (fun ⟨hr, _, hn⟩ => ⟨hr, trivial, hn⟩) fun hc =>
      ⟨(g.control hc).1, (g.control hc).2.1, nofun⟩
  split
  · exact moves_startDue
  split
  · exact moves_startControl _ hh
  · exact moves_choosePass _ rfl

/-! ### The pins -/

theorem moves_clearAssigned (f : PinFn) : Moves ctl rel s (clearAssigned f s) := by
  unfold clearAssigned
  split
  · exact .refl s
  · dsimp only
    split
    · exact .after (moves_setCounter ..) (moves_setCounter ..)
    · exact moves_setCounter ..

theorem moves_notifyMapping (p : PinIx) (was now : Bool) : Moves ctl rel s (notifyMapping p was now s) := by
  unfold notifyMapping
  split
  · exact .refl s
  split
  · exact .refl s
  · exact .after (moves_drainFailed _) (moves_pinMappingChanged ..)

theorem moves_takeMapping (p : PinIx) (f : PinFn) : Moves ctl rel s (takeMapping p f s) :=
  .after (moves_notifyMapping ..) (.after (moves_clearAssigned f) (moves_setPin ..))

theorem moves_countPulse (q : CounterIx) (cascade : Bool) : Moves ctl rel s (countPulse q cascade s) := by
  unfold countPulse
  dsimp only
  split
  · exact .after (moves_setCounter ..) (moves_setCounter ..)
  · exact moves_setCounter ..

theorem moves_convertPin (p : PinIx) (c : Conversion) : Moves ctl rel s (convertPin p c s) := by
  unfold convertPin
  split
  · exact moves_setPin ..
  · exact .refl s

theorem moves_samplePoint (p : PointIx) : Moves ctl rel s (samplePoint p s) := by
  unfold samplePoint
  split
  · split
    · exact moves_takeRaw ..
    · exact moves_failPoint ..
  · split
    · exact .after (moves_acceptReading ..) (moves_setRaw ..)
    · exact moves_failPoint ..
  · split
    · exact .refl s
    · exact moves_failPoint ..
  · exact .refl s
  · exact .refl s

theorem moves_samplingEvent : Moves ctl rel s (samplingEvent s) := Moves.foldl (fun _ p => moves_samplePoint p) _ s

theorem moves_conversionRound (l8 l9 l10 l11 : Conversion) : Moves ctl rel s (conversionRound l8 l9 l10 l11 s) :=
  .after (moves_convertPin ..) (.after (moves_convertPin ..) (.after (moves_convertPin ..) (moves_convertPin ..)))

/-! ### Cells -/

/-- R124, R127: driving a cell leaves its residue and its estimate in their ranges. -/
theorem moves_driveCell {e : CellIx} (c : CellCfg) {x : Cell} (hinv : cellInv (s.cell e) → cellInv (plate c (formDuty c x)))
    (hin : x.inflow = (s.cell e).inflow) : Moves ctl rel s (driveCell e c x s) := by
  have hset : Moves ctl rel s (s.setCell e (plate c (formDuty c x))) :=
    moves_setCell hinv (fun _ => Nat.le_of_lt_succ (Nat.mod_lt _ (by decide))) fun h => ⟨add48_le .., hin ▸ h.2⟩
  unfold driveCell
  dsimp only
  split
  · exact hset.trans (moves_raiseAlert ..)
  · exact hset

/-- R121, R122: sensing changes the fold-back level and the counts within their ranges; a count at its limit is a fault. -/
theorem senseVoltage_ranges (c : CellCfg) (p : Point) {x : Cell} (hf : x.fold ≤ 6) (hh : x.high < 10) (hm : x.miss < 3) :
    ∃ fold high miss reason, senseVoltage c p x = ({ x with fold := fold, high := high, miss := miss }, reason) ∧
      fold ≤ 6 ∧ high ≤ 10 ∧ miss ≤ 3 ∧ (reason = .none → high < 10 ∧ miss < 3) := by
  by_cases hu : usable p = true
  · rcases Nat.lt_or_ge c.vLimit p.value with hv | hv
    · rcases Nat.lt_or_ge x.fold 6 with h6 | h6
      · exact ⟨_, _, _, _, senseVoltage_of_high_of_fold_lt hu hv h6, by omega, by omega, by omega, fun _ => by omega⟩
      · rcases Nat.lt_or_ge x.high 9 with h9 | h9
        · exact ⟨_, _, _, _, senseVoltage_of_high_of_le_fold hu hv h6 h9, by omega, by omega, by omega, fun _ => by omega⟩
        · exact ⟨_, _, _, _, senseVoltage_of_tenth_high hu hv h6 h9, by omega, by omega, by omega, nofun⟩
    · rcases Nat.lt_or_ge p.value (c.vLimit - c.vHyst) with hl | hl
      · exact ⟨_, _, _, _, senseVoltage_of_low hu hl, by omega, by omega, by omega, fun _ => by omega⟩
      · exact ⟨_, _, _, _, senseVoltage_of_band hu hl hv, by omega, by omega, by omega, fun _ => by omega⟩
  · rcases Nat.lt_or_ge x.miss 2 with h2 | h2
    · exact ⟨_, _, _, _, senseVoltage_of_miss hu h2, by omega, by omega, by omega, fun _ => by omega⟩
    · exact ⟨_, _, _, _, senseVoltage_of_third_miss hu h2, by omega, by omega, by omega, nofun⟩

/-- R121, R122: sensing changes the fold-back level and the counts alone. -/
theorem senseVoltage_touches (c : CellCfg) (p : Point) (x : Cell) :
    ∃ fold high miss reason, senseVoltage c p x = ({ x with fold := fold, high := high, miss := miss }, reason) := by
  unfold senseVoltage judgeVoltage
  split
  · split
    · split
      · exact ⟨_, x.high, _, _, rfl⟩
      · exact ⟨x.fold, _, _, _, rfl⟩
    split
    · exact ⟨_, _, _, _, rfl⟩
    · exact ⟨x.fold, _, _, _, rfl⟩
  · exact ⟨x.fold, x.high, _, _, rfl⟩

theorem moves_faultCell {e : CellIx} (reason : CellFault) {x : Cell}
    (hinv : cellInv (s.cell e) → x.fold ≤ 6 ∧ x.high ≤ 10 ∧ x.miss ≤ 3)
    (hres : x.platedResidue = (s.cell e).platedResidue) (hpl : x.plated = (s.cell e).plated)
    (hin : x.inflow = (s.cell e).inflow) : Moves ctl rel s (faultCell e reason x s) := by
  refine .after (moves_raiseAlert ..) (moves_setCell (fun h => ?_) (fun h => ?_) fun h => ?_)
  · obtain ⟨hf, hh, hm⟩ := hinv h
    exact ⟨fun _ => ⟨rfl, rfl⟩, hf, hh, hm, nofun⟩
  · exact hres.le.trans h
  · exact ⟨hpl.le.trans h.1, hin.le.trans h.2⟩

theorem moves_regulate {e : CellIx} (c : CellCfg) (hrun : (s.cell e).state = .run) : Moves ctl rel s (regulate e c s) := by
  obtain ⟨fold, high, miss, reason, hsense⟩ := senseVoltage_touches c (s.point c.voltPoint) (targetFormed s e c)
  have hrange (h : cellInv (s.cell e)) : fold ≤ 6 ∧ high ≤ 10 ∧ miss ≤ 3 ∧ (reason = .none → high < 10 ∧ miss < 3) := by
    obtain ⟨-, hf, -, -, hlow⟩ := h
    obtain ⟨hh, hm⟩ := hlow hrun
    obtain ⟨fold', high', miss', reason', h', hr⟩ := senseVoltage_ranges c (s.point c.voltPoint) (x := targetFormed s e c) hf hh hm
    rw [hsense] at h'
    simp only [Prod.mk.injEq, Cell.mk.injEq, true_and, and_true] at h'
    obtain ⟨⟨rfl, rfl, rfl⟩, rfl⟩ := h'
    exact hr
  by_cases hreason : reason = .none
  · subst hreason
    rw [regulate, ← targetFormed, hsense]
    refine moves_driveCell c (fun h => ?_) rfl
    obtain ⟨hf, hh, hm, hlow⟩ := hrange h
    exact ⟨fun hne => absurd hrun hne, hf, hh, hm, fun _ => hlow rfl⟩
  · have hfault : regulate e c s =
        faultCell e reason { targetFormed s e c with fold := fold, high := high, miss := miss } s := by
      rw [regulate, ← targetFormed, hsense]
      cases reason with
      | none => exact absurd rfl hreason
      | sulfideRisk => rfl
      | senseLost => rfl
    rw [hfault]
    refine moves_faultCell reason (fun h => ?_) rfl rfl rfl
    obtain ⟨hf, hh, hm, -⟩ := hrange h
    exact ⟨hf, hh, hm⟩

theorem moves_regulationExpired (e : CellIx) : Moves ctl rel s (regulationExpired e s) := by
  unfold regulationExpired
  split
  · exact .refl s
  split
  · next h =>
    simp only [Bool.and_eq_true, decide_eq_true_eq] at h
    exact moves_regulate _ h.1
  · exact .refl s

theorem moves_startCell (e : CellIx) (c : CellCfg) : Moves ctl rel s (startCell e c s) :=
  moves_driveCell c (fun _ => ⟨fun h => absurd rfl h, Nat.zero_le _, Nat.zero_le _, Nat.zero_le _, fun _ => ⟨Nat.succ_pos 9, Nat.succ_pos 2⟩⟩) rfl

theorem cellInv_leaveRun {st : CellState} {x : Cell} (hst : st ≠ .run) (h : cellInv x) : cellInv (leaveRun st x) :=
  ⟨fun _ => ⟨rfl, rfl⟩, h.2.1, h.2.2.1, h.2.2.2.1, fun hr => absurd hr hst⟩

/-- A function of one cell record, applied to all of them. -/
theorem moves_mapCells {f : Cell → Cell} (hinv : ∀ x, cellInv x → cellInv (f x))
    (hres : ∀ x, (f x).platedResidue = x.platedResidue) (hpl : ∀ x, (f x).plated = x.plated) (hin : ∀ x, (f x).inflow = x.inflow) :
    Moves ctl rel s { s with cells := eachOf f s.cells } := by
  have hcell (e : CellIx) : State.cell { s with cells := eachOf f s.cells } e = f (s.cell e) := by simp [State.cell]
  refine ⟨fun g => ⟨⟨rfl, id, id, id, id, fun h e => ?_, id, ?_, ?_⟩, g.control, g.release⟩⟩
  · rw [hcell]; exact hinv _ (h e)
  · rintro ⟨hi, ht, hk, h⟩
    exact ⟨hi, ht, hk, fun e => by rw [hcell, hres]; exact h e⟩
  · rintro ⟨hi, ht, hk, h, hrest⟩
    exact ⟨hi, ht, hk, fun e => by rw [hcell, cellSums, hpl, hin]; exact h e, hrest⟩

theorem moves_cellsSafe : Moves ctl rel s (cellsSafe s) := by
  refine moves_mapCells (fun x h => ?_) (fun x => ?_) (fun x => ?_) fun x => ?_
  all_goals split
  · exact cellInv_leaveRun nofun h
  · exact h
  all_goals rfl

/-! ### Chains -/

theorem mod_le_999 (n : Nat) : n % 1000 ≤ 999 := Nat.le_of_lt_succ (Nat.mod_lt n (by decide))

/-- R139, R140: the tail mass keeps the states of the positions and leaves residues and sums in their ranges. -/
theorem moves_meterTail (k : ChainIx) (ct : Option Nat) (m : Option Nat) :
    Moves ctl rel s (s.setChain k (meterTail ct { s.chain k with metering := m })) := by
  unfold meterTail creditTail
  dsimp only
  split
  · split
    · exact moves_setChain id (fun ⟨_, hb, hp⟩ => ⟨mod_le_999 _, hb, hp⟩)
        fun ⟨_, hb, hu, hp, _⟩ => ⟨add48_le .., hb, hu, hp, Nat.zero_le _⟩
    split
    · exact moves_setChain id (fun ⟨ha, _, hp⟩ => ⟨ha, mod_le_999 _, hp⟩)
        fun ⟨ha, _, hu, hp, _⟩ => ⟨ha, add48_le .., hu, hp, Nat.zero_le _⟩
    · exact moves_setChain id (fun ⟨ha, hb, _⟩ => ⟨ha, hb, mod_le_999 _⟩)
        fun ⟨ha, hb, hu, _, _⟩ => ⟨ha, hb, hu, add48_le .., Nat.zero_le _⟩
  · exact moves_setChain id id fun ⟨ha, hb, hu, hp, _⟩ => ⟨ha, hb, hu, hp, Nat.zero_le _⟩

/-- R141: the breakthrough run is the only figure that part 3 changes. -/
theorem countRun_eq (c : ChainCfg) (ct : Option Nat) (x : Chain) :
    countRun c ct x = { x with run := runAfterMetering c ct x.run } := by
  cases ct with
  | some t =>
    have hmodel : countRun c (some t) x = if c.limit < t then { x with run := satAdd 255 x.run 1 } else { x with run := 0 } := rfl
    have hrule : runAfterMetering c (some t) x.run = if c.limit < t then min (x.run + 1) 255 else 0 := rfl
    rw [hmodel, hrule]
    split <;> rfl
  | none =>
    have hmodel : countRun c none x = if c.tail.isNone then { x with run := 0 } else x := rfl
    have hrule : runAfterMetering c none x.run = if c.tail = none then 0 else x.run := rfl
    rw [hmodel, hrule]
    simp only [Option.isNone_iff_eq_none]
    split <;> rfl

/-- R142: spending the lead leaves at most one LEAD, and a LAG only behind it. -/
theorem chainInv_spend {x : Chain} {leadIsA : Bool} (hlead : if leadIsA then x.posA.state = .lead else x.posB.state = .lead)
    (h : chainInv x) : chainInv (spend leadIsA x) := by
  obtain ⟨hone, ha, hb⟩ := h
  cases leadIsA with
  | true =>
    rw [if_pos rfl] at hlead
    have hup : (spend true x).posB.state ≠ .lag := by
      simp only [spend, if_true]
      split
      · nofun
      · assumption
    exact ⟨fun h => (nomatch h.1), nofun, fun h => absurd h hup⟩
  | false =>
    rw [if_neg nofun] at hlead
    have hup : (spend false x).posA.state ≠ .lag := by
      simp only [spend, Bool.false_eq_true, if_false]
      split
      · nofun
      · assumption
    exact ⟨fun h => (nomatch h.2), fun h => absurd h hup, nofun⟩

theorem moves_spend {k : ChainIx} {leadIsA : Bool}
    (hlead : if leadIsA then (s.chain k).posA.state = .lead else (s.chain k).posB.state = .lead) :
    Moves ctl rel s (s.setChain k (spend leadIsA (s.chain k))) := by
  refine moves_setChain (chainInv_spend hlead) ?_ ?_ <;>
    cases leadIsA <;> simp only [chainResidues, chainSums, spend, Bool.false_eq_true, if_false, if_true] <;> split <;> exact id

theorem moves_spentEffects (k : ChainIx) (c : ChainCfg) (detail : List Nat) : Moves ctl rel s (spentEffects k c detail s) := by
  unfold spentEffects
  split
  · exact .after (moves_raiseAlert ..) (moves_ownerRequest ..)
  · exact moves_raiseAlert ..

theorem moves_testLead {k : ChainIx} (c : ChainCfg) {leadIsA : Bool}
    (hlead : if leadIsA then (s.chain k).posA.state = .lead else (s.chain k).posB.state = .lead) :
    Moves ctl rel s (testLead k c leadIsA s) := by
  unfold testLead
  dsimp only
  by_cases hcause : spentCause c (s.chain k) (if leadIsA then (s.chain k).posA else (s.chain k).posB) = 0
  · rw [if_pos hcause]; exact .refl s
  · rw [if_neg hcause]; exact .after (moves_spentEffects ..) (moves_spend hlead)

theorem moves_orderRequest (k : ChainIx) (c : ChainCfg) : Moves ctl rel s (orderRequest k c s) := by
  unfold orderRequest
  split
  · split
    · exact .refl s
    · exact moves_ownerRequest ..
  · exact .refl s

theorem moves_meterLead (k : ChainIx) (c : ChainCfg) (ct : Option Nat) (hlead : hasLead (s.chain k) = true) :
    Moves ctl rel s (meterLead k c ct s) := by
  refine .after (moves_orderRequest ..) (.after (moves_testLead c ?_) (moves_setChain ?_ ?_ ?_))
  · simp only [hasLead, Bool.or_eq_true, decide_eq_true_eq] at hlead
    simp only [State.setChain_chain_self, countRun_eq, decide_eq_true_eq]
    split
    · assumption
    · next h => exact hlead.resolve_left h
  all_goals rw [countRun_eq]; exact id

theorem moves_chainExpired (k : ChainIx) : Moves ctl rel s (chainExpired k s) := by
  unfold chainExpired
  split
  · exact .refl s
  split
  · unfold meterChain
    dsimp only
    split
    · next h => exact .after (moves_meterLead _ _ _ h) (moves_meterTail ..)
    · exact moves_meterTail ..
  · exact .refl s

theorem moves_installCartridge {k : ChainIx} (c : ChainCfg) {isA : Bool} (capacity : Nat)
    (hfree : (posOf (s.chain k) isA).state ≠ .lead ∧ (posOf (s.chain k) isA).state ≠ .lag) :
    Moves ctl rel s (installCartridge k c isA capacity s) := by
  unfold installCartridge
  dsimp only
  split
  · next hother =>
    refine moves_setChain (fun _ => ?_) ?_ ?_ <;> cases isA <;>
      simp_all [chainInv, chainResidues, chainSums, setPos, posOf]
  · next hother =>
    refine .after (moves_ownerRequest ..) (moves_setChain (fun h => ?_) ?_ ?_) <;> cases isA <;>
      simp_all [chainInv, chainResidues, chainSums, setPos, posOf]

/-! ### Streams -/

theorem moves_streamVolume (i : StreamIx) (c : StreamCfg) : Moves ctl rel s (streamVolume i c s).1 := by
  unfold streamVolume
  dsimp only
  split
  · exact .refl s
  split
  · exact .after (moves_takeCounter ..) (moves_setStream (fun h => ⟨h.1, Nat.le_of_lt_succ (Nat.mod_lt _ (by decide))⟩) id)
  · exact .after (moves_failPoint ..) (moves_setStream id id)

theorem moves_accountStep (i : StreamIx) (c : StreamCfg) (conc v : Nat) (fallbackUsed : Bool) :
    Moves ctl rel s (s.setStream i (accountStep c conc v fallbackUsed (s.stream i))) :=
  moves_setStream (fun h => ⟨mod_le_999 _, h.2⟩) fun _ => ⟨add48_le .., add48_le ..⟩

theorem moves_creditDest (d : Dest) (m v : Nat) : Moves ctl rel s (creditDest d m v s) := by
  cases d with
  | cell e => exact moves_setCell id id fun h => ⟨h.1, add48_le ..⟩
  | chain k => exact moves_creditChain ..
  | tank t => exact moves_creditTank ..
  | drain => exact moves_deliverDrain m
  | ret => exact moves_creditReturn ..

theorem moves_creditStep (i : StreamIx) (c : StreamCfg) : Moves ctl rel s (creditStep i c s) := by
  have hset : Moves ctl rel s (s.setStream i { s.stream i with credited := creditedBy c (s.actuator c.route).confirmed }) :=
    moves_setStream id id
  unfold creditStep
  dsimp only
  split
  · exact .after (moves_creditDest ..) hset
  · split
    · exact .after (moves_creditDest ..) hset
    · exact hset
  · exact .after (moves_creditUnrouted ..) hset
  · exact hset

theorem moves_routeAlert (i : StreamIx) (c : StreamCfg) (old new : StreamState) : Moves ctl rel s (routeAlert i c old new s) := by
  unfold routeAlert
  split
  · exact .refl s
  · cases new
    · exact .refl s
    all_goals exact moves_raiseAlert ..

theorem moves_routeRequest (c : StreamCfg) (st : StreamState) : Moves ctl rel s (routeRequest c st s) := by
  unfold routeRequest
  cases st <;> dsimp only
  · exact .refl s
  · split
    · exact .refl s
    · exact moves_ownerRequest ..
  · split
    · exact .refl s
    · exact moves_ownerRequest ..
  · exact .refl s

theorem moves_routeStep (i : StreamIx) (c : StreamCfg) : Moves ctl rel s (routeStep i c s) :=
  .after (moves_routeRequest ..) (.after (moves_routeAlert ..) (moves_setStream id id))

theorem moves_stepStream (i : StreamIx) : Moves ctl rel s (stepStream i s) := by
  unfold stepStream
  split
  · exact .refl s
  split
  · exact .refl s
  · exact .after (moves_routeStep ..) (.after (moves_creditStep ..) (.after (moves_accountStep ..) (moves_streamVolume ..)))

theorem moves_stepStreams : Moves ctl rel s (stepStreams s) := Moves.foldl (fun _ i => moves_stepStream i) _ s

/-! ### Meterings of tanks and of a release -/

theorem moves_outletReading (t : TankIx) (c : TankCfg) : Moves ctl rel s (outletReading t c s).1 := by
  unfold outletReading
  dsimp only
  split
  · split
    · exact .after (moves_takeCounter ..)
        (moves_setTank_of_state rfl (fun h => ⟨Nat.le_of_lt_succ (Nat.mod_lt _ (by decide)), h.2⟩) id)
    · exact .after (moves_failPoint ..) (moves_setTank_of_state rfl id id)
  · split <;> exact .refl s

theorem moves_keepOutflowResidue (t : TankIx) (w : Nat) : Moves ctl rel s (keepOutflowResidue t w s) :=
  moves_setTank_of_state rfl (fun h => ⟨h.1, mod_le_999 _⟩) id

theorem moves_reworkOutflow (t : TankIx) (c : TankCfg) : Moves ctl rel s (reworkOutflow t c s) := by
  have hread := moves_outletReading (ctl := ctl) (rel := rel) (s := s) t c
  unfold reworkOutflow
  split
  · next s' h => rw [h] at hread; exact hread
  · next s' w h =>
    rw [h] at hread
    exact hread.trans (.after (moves_creditRework ..) (moves_keepOutflowResidue t w))

theorem moves_endRework {t : TankIx} (h : rel → t ∉ s.disch.queue) : Moves ctl rel s (endRework t s) := by
  have hbatch : Moves ctl rel s (updBatch t (fun b => { b with outcome := .reworked }) s) := moves_updBatch ..
  refine .after (moves_tankGo fun hr => mayEnter_of_not_mem ?_ nofun)
    (.after (moves_setTank_of_state rfl id id) (hbatch.trans (moves_raiseBatch t .reworked)))
  have hdisch : (raiseBatch t .reworked (updBatch t (fun b => { b with outcome := .reworked }) s)).disch = s.disch := by
    unfold raiseBatch
    split <;> rfl
  simpa [hdisch] using h hr

theorem moves_reworkPause (t : TankIx) (c : TankCfg) : Moves ctl rel s (reworkPause t c s) := by
  unfold reworkPause
  dsimp only
  split
  · exact .refl s
  · exact .after (moves_ownerRequest ..) (moves_setTank_of_state rfl id id)

end Sys2Proof.Machine
end


section
/-! SUPPORT for O3 and O57 to O60. The timed events of the tanks and of the Discharge Controller move the state: meterings, release
evaluation, and the three parts of the discharge timer. -/

namespace Sys2Proof.Machine

variable {ctl rel : Prop} {s t : State}

/-! ### Tanks that a reading handed on leaves alone -/

@[simp] theorem raiseBatch_tank (t : TankIx) (stage : BatchStage) (u : TankIx) (s : State) :
    (raiseBatch t stage s).tank u = s.tank u := by
  unfold raiseBatch
  split <;> rfl

@[simp] theorem raiseBatch_disch (t : TankIx) (stage : BatchStage) (s : State) : (raiseBatch t stage s).disch = s.disch := by
  unfold raiseBatch
  split <;> rfl

theorem tankGo_tank_ne {t u : TankIx} (h : u ≠ t) (st : TankState) (s : State) : (tankGo t st s).tank u = s.tank u := by
  rw [tankGo_tank, if_neg h]

theorem setTank_tank_ne {t u : TankIx} (h : u ≠ t) (x : Tank) (s : State) : (s.setTank t x).tank u = s.tank u := by
  rw [State.setTank_tank, if_neg h]

theorem reworkState_tank_ne {t u : TankIx} (h : u ≠ t) (cause : ReworkCause) (s : State) :
    (reworkState t cause s).tank u = s.tank u := by
  unfold reworkState
  split
  · rfl
  · simp only [tankGo_tank_ne h, setTank_tank_ne h, outletSnapshot, updBatch]

@[simp] theorem reworkReports_tank (t : TankIx) (cause : ReworkCause) (u : TankIx) (s : State) :
    (reworkReports t cause s).tank u = s.tank u := by
  simp [reworkReports]

theorem enterRework_tank_ne {t u : TankIx} (h : u ≠ t) (cause : ReworkCause) (s : State) :
    (enterRework t cause s).tank u = s.tank u := by
  simp [enterRework, reworkState_tank_ne h]

theorem toQueued_tank_ne {t u : TankIx} (h : u ≠ t) (s : State) : (toQueued t s).tank u = s.tank u := by
  simp [toQueued, tankGo_tank_ne h]

theorem testDecision_tank_ne {t u : TankIx} (h : u ≠ t) (c : TankCfg) (s : State) : (testDecision t c s).tank u = s.tank u := by
  have hbegin : (beginDecision t c s).tank u = s.tank u := by simp only [beginDecision, updBatch, setTank_tank_ne h]
  unfold testDecision
  dsimp only
  split
  · exact hbegin
  split
  · rw [toQueued_tank_ne h, hbegin]
  · rw [enterRework_tank_ne h, hbegin]

theorem afterSample_tank_ne {t u : TankIx} (h : u ≠ t) (c : TankCfg) (s : State) : (afterSample t c s).tank u = s.tank u := by
  unfold afterSample countsComplete
  split
  · split
    · exact testDecision_tank_ne h c s
    · exact setTank_tank_ne h ..
  · rfl

/-- R157: only a tank in TESTING takes a sample. -/
theorem testSample_tank {u : TankIx} (h : (s.tank u).state ≠ .testing) (p : PointIx) (v : Nat) (t : TankIx) :
    (testSample p v t s).tank u = s.tank u := by
  unfold testSample
  split
  · rfl
  split
  · next ht =>
    have hne : u ≠ t := fun he => h (he ▸ ht)
    split
    · rw [afterSample_tank_ne hne, setTank_tank_ne hne]
    split
    · rw [afterSample_tank_ne hne, setTank_tank_ne hne]
    · rfl
  · rfl

theorem testSamples_tank {u : TankIx} (h : (s.tank u).state ≠ .testing) (p : PointIx) (v : Nat) :
    (testSamples p v s).tank u = s.tank u := by
  unfold testSamples
  generalize List.finRange 4 = l
  induction l generalizing s with
  | nil => rfl
  | cons t l ih =>
    have hstep := testSample_tank h p v t
    rw [List.foldl_cons, ih (hstep ▸ h), hstep]

/-- R179: only a RELEASING tank is stopped. -/
theorem stopRelease_tank {u : TankIx} (h : (s.tank u).state ≠ .releasing) (cause : StopCause) :
    (stopRelease cause s).tank u = s.tank u := by
  unfold stopRelease
  split
  · rfl
  · next t ht =>
    have hne : u ≠ t := fun he => h (he ▸ releasing_of_releasingTank ht)
    cases cause <;> simp [raiseStopped, requeue, reworkState_tank_ne hne, tankGo_tank_ne hne]

theorem effluentReading_tank {u : TankIx} (h : (s.tank u).state ≠ .releasing) (p : PointIx) (v : Nat) :
    (effluentReading p v s).tank u = s.tank u := by
  have hcaps (limit : Nat) (s' : State) (hs : s'.tank u = s.tank u) : (breakCaps p v limit s').tank u = s.tank u := by
    rw [breakCaps, stopRelease_tank (by simpa [hs] using h)]
    simpa using hs
  unfold effluentReading
  split
  · rfl
  · next c _ =>
    have hsilver : (if c.silverPoint = p then effluentSilver c p v s else s).tank u = s.tank u := by
      unfold effluentSilver
      dsimp only
      split
      · split
        · exact hcaps 1 _ rfl
        · rfl
      · rfl
    dsimp only
    generalize (if c.silverPoint = p then effluentSilver c p v s else s) = s' at hsilver
    split
    · unfold effluentPh
      split
      · exact hcaps 2 s' hsilver
      split
      · exact hcaps 3 s' hsilver
      · exact hsilver
    · exact hsilver

/-- R44: a reading handed on leaves the tanks alone that are neither TESTING nor RELEASING. -/
theorem handOn_tank {u : TankIx} (ht : (s.tank u).state ≠ .testing) (hr : (s.tank u).state ≠ .releasing) (p : PointIx) (v : Nat) :
    (handOn p v s).tank u = s.tank u := by
  have h := testSamples_tank ht p v
  rw [handOn, effluentReading_tank (h ▸ hr), h]

@[simp] theorem handCounter_tank (p : PointIx) (n k : Nat) (u : TankIx) (s : State) : (handCounter p n k s).tank u = s.tank u := by
  unfold handCounter
  dsimp only
  split <;> rfl

theorem takeCounter_tank {u : TankIx} (ht : (s.tank u).state ≠ .testing) (hr : (s.tank u).state ≠ .releasing)
    (p : PointIx) (n k : Nat) : (takeCounter p n k s).tank u = s.tank u := by
  have h := handCounter_tank p n k u s
  rw [takeCounter, handOn_tank (h ▸ ht) (h ▸ hr), h]

@[simp] theorem failPoint_tank (p : PointIx) (cause : FailCause) (u : TankIx) (s : State) : (failPoint p cause s).tank u = s.tank u := by
  unfold failPoint
  split <;> rfl

/-- R161: a tank in REWORK stays in it while its outlet is read. -/
theorem outletReading_state {t : TankIx} (c : TankCfg) (h : (s.tank t).state = .rework) :
    ((outletReading t c s).1.tank t).state = .rework := by
  unfold outletReading
  dsimp only
  split
  · split
    · rw [takeCounter_tank] <;> simp [h]
    · simpa using h
  · split <;> exact h

@[simp] theorem creditRework_tank (d : ReworkDest) (m v : Nat) (u : TankIx) (s : State) : (creditRework d m v s).tank u = s.tank u := by
  cases d <;> rfl

theorem reworkOutflow_state {t : TankIx} (c : TankCfg) (h : (s.tank t).state = .rework) :
    ((reworkOutflow t c s).tank t).state = .rework := by
  have hread := outletReading_state c h
  unfold reworkOutflow
  split
  · next hs => simpa [hs] using hread
  · next hs => simpa [hs, keepOutflowResidue] using hread

/-! ### Meterings of a tank -/

theorem moves_meterRework {t : TankIx} (c : TankCfg) (h : (s.tank t).state = .rework) : Moves ctl rel s (meterRework t c s) := by
  unfold meterRework
  dsimp only
  refine (moves_reworkOutflow t c).trans ?_
  have hstate := reworkOutflow_state c h
  generalize reworkOutflow t c s = s at hstate
  split
  · exact .of_sound fun g => moves_endRework fun hr => (g.release hr).not_mem (by simp [hstate])
  · exact moves_reworkPause ..

theorem moves_meterTank (t : TankIx) (c : TankCfg) : Moves ctl rel s (meterTank t c s) := by
  unfold meterTank
  refine .of_sound fun g => ?_
  have hq (h : (s.tank t).state ≠ .queued) (hr : rel) : t ∉ s.disch.queue := (g.release hr).not_mem h
  split
  · next h =>
    split
    · exact moves_closeOfFill c (hq (by simp [h]))
    · exact .refl s
  · next h =>
    split
    · exact moves_testDecision c (hq (by simp [h]))
    · exact .refl s
  · next h => exact moves_meterRework c h
  all_goals exact .refl s

theorem moves_tankExpired (t : TankIx) : Moves ctl rel s (tankExpired t s) := by
  unfold tankExpired
  split
  · exact .refl s
  split
  · exact .after (moves_meterTank ..) (moves_setTank_of_state rfl id id)
  · exact .refl s

theorem moves_dwellExpired (t : TankIx) : Moves ctl rel s (dwellExpired t s) := by
  unfold dwellExpired
  split
  · exact .refl s
  split
  · next h =>
    simp only [Bool.and_eq_true, decide_eq_true_eq] at h
    exact .of_sound fun g => moves_toTesting _ fun hr => (g.release hr).not_mem (by simp [h.1])
  · exact .refl s

theorem moves_testExpired (t : TankIx) : Moves ctl rel s (testExpired t s) := by
  unfold testExpired
  split
  · exact .refl s
  split
  · next h =>
    simp only [Bool.and_eq_true, decide_eq_true_eq] at h
    exact .of_sound fun g => .after (moves_enterRework _ fun hr => (g.release hr).not_mem (by simp [h.1]))
      (moves_setTank_of_state rfl id id)
  · exact .refl s

/-! ### The release -/

theorem moves_releaseDrainCheck (t : TankIx) : Moves ctl rel s (releaseDrainCheck t s) := by
  unfold releaseDrainCheck
  split
  · exact .refl s
  · split
    · exact moves_drainFailed _
    all_goals exact .refl s

/-- R177: with no other release in progress a tank that has left the release queue becomes RELEASING. -/
theorem moves_startRelease {t : TankIx} (hnone : releasingTank s = none) (h : rel → t ∉ s.disch.queue) :
    Moves ctl rel s (startRelease t s) := by
  have hgo : Moves ctl rel s (tankGo t .releasing s) := moves_tankGo fun hr =>
    ⟨fun hm => absurd hm (h hr), fun _ u hu => absurd hu (not_releasing_of_none hnone u)⟩
  unfold startRelease
  dsimp only
  split
  · exact hgo
  · exact .after (moves_releaseDrainCheck t) (.after (moves_outletSnapshot ..) hgo)

/-- R174: the head of the release queue leaves it. -/
theorem moves_popQueue {t : TankIx} {rest : List TankIx} (h : s.disch.queue = t :: rest) :
    Moves ctl rel s (s.setDisch { s.disch with queue := rest }) :=
  .of_sound fun g => moves_setDisch id fun hr => by
    obtain ⟨hnd, hqueued, -⟩ := g.release hr
    rw [h] at hnd hqueued
    exact ⟨hnd.of_cons, fun u hu => hqueued u (List.mem_cons_of_mem t hu)⟩

theorem moves_evaluate (n : Nat) : Moves ctl rel s (evaluate n s) := by
  induction n generalizing s with
  | zero => exact .refl s
  | succ n ih =>
    unfold evaluate
    split
    · exact .refl s
    · next t rest hqueue =>
      refine .of_sound fun g => ?_
      have hrest (hr : rel) : t ∉ rest := by
        have hnd := (g.release hr).1
        rw [hqueue] at hnd
        exact (List.nodup_cons.mp hnd).1
      dsimp only
      split
      · exact (moves_popQueue hqueue).trans ((moves_enterRework _ hrest).trans ih)
      split
      · next hmay =>
        simp only [mayRelease, Bool.and_eq_true, Option.isNone_iff_eq_none] at hmay
        exact (moves_popQueue hqueue).trans (moves_startRelease hmay.1.1 hrest)
      · exact .refl s

theorem moves_evaluateQueue : Moves ctl rel s (evaluateQueue s) := moves_evaluate _

theorem moves_deliverRelease (t : TankIx) (m : Nat) : Moves ctl rel s (deliverRelease t m s) :=
  .after (moves_consume m) (moves_updBatch ..)

theorem moves_completeRelease {t : TankIx} (h : rel → t ∉ s.disch.queue) : Moves ctl rel s (completeRelease t s) :=
  .after (moves_raiseBatch ..) (.after (moves_tankGo fun hr => mayEnter_of_not_mem (h hr) nofun)
    (.after (moves_setDisch_of_queue rfl id) (moves_updBatch ..)))

theorem moves_meterRelease (t : TankIx) (c : TankCfg) : Moves ctl rel s (meterRelease t c s) := by
  have hread := moves_outletReading (ctl := ctl) (rel := rel) (s := s) t c
  unfold meterRelease
  split
  · next h =>
    rw [h] at hread
    exact hread.trans (moves_stopRelease _)
  · next s' w h =>
    rw [h] at hread
    dsimp only
    refine hread.trans (.trans (.after (moves_deliverRelease t (outflowSum (s'.tank t) w / 1000)) (moves_keepOutflowResidue t w)) ?_)
    generalize deliverRelease t _ _ = s
    split
    · exact .refl s
    · next hst =>
      rw [ne_eq, Decidable.not_not] at hst
      split
      · exact .of_sound fun g => moves_completeRelease fun hr => (g.release hr).not_mem (by simp [hst])
      split
      · exact moves_stopRelease _
      · exact .refl s

theorem moves_meterReleasing : Moves ctl rel s (meterReleasing s) := by
  unfold meterReleasing
  split
  · exact .refl s
  · split
    · exact .refl s
    · exact moves_meterRelease ..

theorem moves_dischargeTick : Moves ctl rel s (dischargeTick s) :=
  .after moves_evaluateQueue (.after moves_meterReleasing (.after moves_countClock (moves_setTimers _)))

end Sys2Proof.Machine
end


section
/-! SUPPORT for O3 and O57 to O60. The requests of the Plant Port move the state: the thirteen LOADs, the READs and the nineteen
COMMANDs. -/

namespace Sys2Proof.Machine

variable {ctl rel : Prop} {s t : State}

/-! ### LOADs -/

/-- R205: the number that bytes spell is below 256 to the power of their count. -/
theorem beVal_lt (bs : List Byte) : beVal bs < 256 ^ bs.length := by
  induction bs using List.reverseRecOn with
  | nil => simp [beVal]
  | append_singleton bs b ih =>
    have := b.isLt
    rw [beVal_append, beVal_one, List.length_append, List.length_singleton, pow_add]
    omega

theorem fieldAt_lt (r : List Byte) (off n : Nat) : fieldAt r off n < 256 ^ n :=
  (beVal_lt _).trans_le (Nat.pow_le_pow_right (by decide) (List.length_take_le ..))

theorem contentBody_content {α : Type} {r : List Byte} {parse : Option α} {a : α} (h : contentBody r parse = .content a) :
    parse = some a := by
  unfold contentBody at h
  split at h
  · cases h
  split at h
  · split at h
    · cases h; rfl
    · cases h
  · cases h

/-- R166: the start value of a permit is a number of six bytes. -/
theorem permitBody_start {r : List Byte} {c : PermitCfg} (h : permitBody r = .content c) : c.start ≤ Config.max48 := by
  have hc : permitCfg? r = some c := contentBody_content h
  have hstart : c.start = fieldAt r 21 6 := by
    simp only [permitCfg?, Option.bind_eq_bind, Option.bind_eq_some_iff] at hc
    obtain ⟨_, _, _, _, _, _, _, _, _, _, _, _, _, _, hc⟩ := hc
    split at hc
    · cases hc; rfl
    · cases hc
  have := fieldAt_lt r 21 6
  rw [hstart]
  exact Nat.le_of_lt_succ this

theorem moves_loadPointRecord (p : PointIx) (r : List Byte) : Moves ctl rel s (loadPointRecord p r s).2 := by
  unfold loadPointRecord
  split
  · exact .refl s
  split
  · exact .refl s
  · exact moves_setPoint ..
  · next c _ =>
    have hset : Moves ctl rel s (s.setPoint p { cfg := some c }) := moves_setPoint ..
    change Moves ctl rel s (installPoint p c s)
    unfold installPoint
    dsimp only
    split
    · split
      · exact hset.trans (moves_failPoint ..)
      · exact hset
    all_goals exact hset

theorem moves_loadCurveRecord (i : CurveIx) (r : List Byte) : Moves ctl rel s (loadCurveRecord i r s).2 := by
  unfold loadCurveRecord
  split
  · exact .refl s
  split
  · exact .refl s
  · exact moves_setCurve ..
  · exact moves_setCurve ..

theorem moves_markRewritten (i : ScanIx) : Moves ctl rel s (markRewritten i s) := by
  unfold markRewritten
  split
  · next x hx =>
    split
    · split
      · exact .of_sound fun g => moves_setHold (by rw [hx]; exact id) fun _ y a hy hj => by cases hy; cases hj
      · exact .refl s
    all_goals exact .refl s
  · exact .refl s

theorem moves_writeScan (i : ScanIx) (slot : Option (PointIx × Nat)) : Moves ctl rel s (writeScan i slot s) :=
  .after (moves_markRewritten i) (moves_setScanEntry ..)

theorem moves_loadScanRecord (i : ScanIx) (r : List Byte) : Moves ctl rel s (loadScanRecord i r s).2 := by
  unfold loadScanRecord
  split
  · exact .refl s
  · exact moves_writeScan ..
  · split
    · exact .refl s
    split
    · exact .refl s
    · exact moves_writeScan ..

theorem moves_freshStream (i : StreamIx) (cfg : Option StreamCfg) : Moves ctl rel s (s.setStream i { cfg := cfg }) :=
  moves_setStream (fun _ => ⟨Nat.zero_le _, Nat.zero_le _⟩) fun _ => ⟨Nat.zero_le _, Nat.zero_le _⟩

theorem moves_loadStreamRecord (i : StreamIx) (r : List Byte) : Moves ctl rel s (loadStreamRecord i r s).2 := by
  unfold loadStreamRecord
  split
  · exact .refl s
  split
  · exact .refl s
  · dsimp only [accepted]
    split
    · exact moves_freshStream i none
    · exact .refl s
  · split
    · exact .refl s
    split
    · exact .refl s
    · exact moves_freshStream ..

theorem moves_loadActuatorRecord (a : ActIx) (r : List Byte) : Moves ctl rel s (loadActuatorRecord a r s).2 := by
  unfold loadActuatorRecord
  split
  · exact .refl s
  split
  · exact .refl s
  · dsimp only [accepted]
    split
    · exact moves_unloadActuator a
    · exact .refl s
  · split
    · exact .refl s
    · exact moves_installActuator ..

theorem moves_loadInterlockRecord (i : InterlockIx) (r : List Byte) : Moves ctl rel s (loadInterlockRecord i r s).2 := by
  unfold loadInterlockRecord
  split
  · exact .refl s
  · exact moves_setInterlock ..
  · exact moves_setInterlock ..

theorem moves_freshCell (e : CellIx) (cfg : Option CellCfg) : Moves ctl rel s (s.setCell e { cfg := cfg }) :=
  moves_setCell (fun _ => ⟨fun _ => ⟨rfl, rfl⟩, Nat.zero_le _, Nat.zero_le _, Nat.zero_le _, nofun⟩)
    (fun _ => Nat.zero_le _) fun _ => ⟨Nat.zero_le _, Nat.zero_le _⟩

theorem moves_loadCellRecord (e : CellIx) (r : List Byte) : Moves ctl rel s (loadCellRecord e r s).2 := by
  unfold loadCellRecord
  split
  · exact .refl s
  split
  · exact .refl s
  · dsimp only [accepted]
    split
    · exact moves_freshCell e none
    · exact .refl s
  · split
    · exact .refl s
    · exact moves_freshCell ..

theorem moves_freshChain (k : ChainIx) (cfg : Option ChainCfg) (m : Option Nat) :
    Moves ctl rel s (s.setChain k { cfg := cfg, metering := m }) :=
  moves_setChain (fun _ => ⟨nofun, nofun, nofun⟩) (fun _ => ⟨Nat.zero_le _, Nat.zero_le _, Nat.zero_le _⟩)
    fun _ => ⟨Nat.zero_le _, Nat.zero_le _, Nat.zero_le _, Nat.zero_le _, Nat.zero_le _⟩

theorem moves_loadChainRecord (k : ChainIx) (r : List Byte) : Moves ctl rel s (loadChainRecord k r s).2 := by
  unfold loadChainRecord
  split
  · exact .refl s
  split
  · exact .refl s
  · dsimp only [accepted]
    split
    · exact moves_freshChain k none none
    · exact .refl s
  · split
    · exact .refl s
    split
    · exact .refl s
    · exact moves_freshChain ..

theorem moves_freshTank {k : TankIx} (h : (s.tank k).state = .idle) (cfg : Option TankCfg) (m : Option Nat) :
    Moves ctl rel s (s.setTank k { cfg := cfg, metering := m }) :=
  moves_setTank_of_state h.symm (fun _ => ⟨Nat.zero_le _, Nat.zero_le _⟩) fun _ => ⟨Nat.zero_le _, Nat.zero_le _⟩

theorem moves_loadTankRecord (k : TankIx) (r : List Byte) : Moves ctl rel s (loadTankRecord k r s).2 := by
  unfold loadTankRecord
  split
  · exact .refl s
  · next hidle =>
    rw [ne_eq, Decidable.not_not] at hidle
    split
    · exact .refl s
    · dsimp only [accepted]
      split
      · exact moves_freshTank hidle none none
      · exact .refl s
    · split
      · exact .refl s
      split
      · exact .refl s
      · exact moves_freshTank hidle ..

theorem moves_loadPermitRecord (i : Fin 1) (r : List Byte) : Moves ctl rel s (loadPermitRecord i r s).2 := by
  unfold loadPermitRecord
  split
  · exact .refl s
  split
  · exact .refl s
  · exact moves_setDisch_of_queue rfl id
  · next c hc =>
    split
    · exact .refl s
    · exact .after moves_budgetAlerts (moves_setDisch_of_queue rfl fun _ => permitBody_start hc)

theorem moves_loadPinFn (p : PinIx) (f : PinFn) : Moves ctl rel s (loadPinFn p f s).2 := by
  unfold loadPinFn
  split
  · exact .refl s
  split
  · exact .refl s
  · exact moves_takeMapping ..

theorem moves_loadPinRecord (p : PinIx) (r : List Byte) : Moves ctl rel s (loadPinRecord p r s).2 := by
  unfold loadPinRecord
  split
  · exact .refl s
  split
  · exact .refl s
  · exact moves_loadPinFn ..
  · exact moves_loadPinFn ..

/-- A change of the Report Queue that leaves its entries. -/
theorem moves_setReports_of_entries {q : ReportQueue} (h : q.entries = s.reports.entries) : Moves ctl rel s (s.setReports q) :=
  moves_setReports (queueInv_of_sublist (h ▸ List.Sublist.refl _))

theorem moves_loadClassRecord (k : KindIx) (r : List Byte) : Moves ctl rel s (loadClassRecord k r s).2 := by
  unfold loadClassRecord
  split
  · exact .refl s
  · exact moves_setReports_of_entries rfl
  · exact moves_setReports_of_entries rfl

theorem moves_loadLineRecord (i : Fin 1) (r : List Byte) : Moves ctl rel s (loadLineRecord i r s).2 := by
  unfold loadLineRecord
  split
  · exact .refl s
  · exact .refl s
  · exact .after (moves_setPort_of_eq rfl rfl rfl rfl) (moves_setLine_of_eq rfl rfl id rfl id)

/-! ### COMMANDs -/

/-- R196: a command on an index of a table moves the state when it does for every index. -/
theorem moves_onIndex {n : Nat} {f : Fin n → State → Code × State} {s : State} (h : ∀ i, Moves ctl rel s (f i s).2)
    (body : List Byte) : Moves ctl rel s (onIndex f body s).2 := by
  unfold onIndex
  split
  · exact .refl s
  · exact h _

theorem moves_startStream (i : StreamIx) : Moves ctl rel s (startStream i s).2 := by
  unfold startStream
  split
  · exact .refl s
  split
  · exact .refl s
  split
  · exact .refl s
  split
  · exact .refl s
  · exact moves_setStream id id

theorem moves_stopStream (i : StreamIx) : Moves ctl rel s (stopStream i s).2 := by
  unfold stopStream
  split
  · exact .refl s
  · dsimp only [accepted]
    split
    · exact .refl s
    · exact moves_setStream id id

theorem moves_startCellCommand (e : CellIx) : Moves ctl rel s (startCellCommand e s).2 := by
  unfold startCellCommand
  split
  · exact .refl s
  split
  · exact .refl s
  split
  · exact .refl s
  split
  · exact .refl s
  · exact moves_startCell ..

theorem moves_fromState {st : CellState} {f : Cell → Cell} (e : CellIx)
    (hinv : ∀ x : Cell, x.state = st → cellInv x → cellInv (f x))
    (hres : ∀ x : Cell, x.platedResidue ≤ 999 → (f x).platedResidue ≤ 999) (hsum : ∀ x, cellSums x → cellSums (f x)) :
    Moves ctl rel s (fromState st f e s).2 := by
  unfold fromState
  split
  · exact .refl s
  split
  · exact .refl s
  · next hst =>
    rw [ne_eq, Decidable.not_not] at hst
    exact moves_setCell (hinv _ hst) (hres _) (hsum _)

theorem moves_harvestCell (e : CellIx) : Moves ctl rel s (fromState .run (leaveRun .harvest) e s).2 :=
  moves_fromState e (fun _ _ h => cellInv_leaveRun nofun h) (fun _ => id) fun _ => id

/-- R110: outside RUN the counts of a cell do not rest on its state. -/
theorem cellInv_idle {x : Cell} (hst : x.state ≠ .run) (h : cellInv x) : cellInv { x with state := .idle } :=
  ⟨fun _ => h.1 hst, h.2.1, h.2.2.1, h.2.2.2.1, nofun⟩

theorem moves_endHarvest (e : CellIx) : Moves ctl rel s (fromState .harvest endHarvest e s).2 :=
  moves_fromState e (fun _ hst h => cellInv_idle (by simp [hst]) h) (fun _ _ => Nat.zero_le _) fun _ h => ⟨Nat.zero_le _, h.2⟩

theorem moves_clearCell (e : CellIx) : Moves ctl rel s (fromState .fault clearCell e s).2 :=
  moves_fromState e (fun _ hst h => cellInv_idle (by simp [hst]) h) (fun _ => id) fun _ => id

theorem moves_installCommand (body : List Byte) (k : ChainIx) : Moves ctl rel s (installCommand body k s).2 := by
  unfold installCommand
  split
  · exact .refl s
  split
  · unfold installAt
    dsimp only
    split
    · exact .refl s
    · next hfree =>
      split
      · exact .refl s
      · exact moves_installCartridge _ _ (by simpa using hfree)
  · exact .refl s

/-- R136: a position that is no LEAD is emptied. -/
theorem moves_emptyPosition {k : ChainIx} {isA : Bool} (h : (posOf (s.chain k) isA).state ≠ .lead) :
    Moves ctl rel s (s.setChain k (setPos (s.chain k) isA {})) := by
  cases isA with
  | true =>
    exact moves_setChain (fun ⟨_, _, hb⟩ => ⟨fun h => (nomatch h.1), nofun, fun hlag => absurd (hb hlag) h⟩)
      (fun ⟨_, hb, hp⟩ => ⟨Nat.zero_le _, hb, hp⟩) fun ⟨_, hrest⟩ => ⟨Nat.zero_le _, hrest⟩
  | false =>
    exact moves_setChain (fun ⟨_, ha, _⟩ => ⟨fun h => (nomatch h.2), fun hlag => absurd (ha hlag) h, nofun⟩)
      (fun ⟨ha, _, hp⟩ => ⟨ha, Nat.zero_le _, hp⟩) fun ⟨ha, _, hrest⟩ => ⟨ha, Nat.zero_le _, hrest⟩

theorem moves_removeCommand (body : List Byte) (k : ChainIx) : Moves ctl rel s (removeCommand body k s).2 := by
  unfold removeCommand
  split
  · exact .refl s
  split
  · exact .refl s
  · unfold removeAt
    split
    · exact .refl s
    · exact .refl s
    · next h => exact moves_emptyPosition (by simp [h])
    · next h => exact moves_emptyPosition (by simp [h])

theorem moves_startTank (k : TankIx) : Moves ctl rel s (startTank k s).2 := by
  unfold startTank
  split
  · exact .refl s
  split
  · exact .refl s
  · next hidle =>
    rw [ne_eq, Decidable.not_not] at hidle
    split
    · exact .refl s
    split
    · exact .refl s
    · exact .of_sound fun g => moves_tankGo fun hr => mayEnter_of_not_mem ((g.release hr).not_mem (by simp [hidle])) nofun

/-- R152: a stopped tank gives up its place in the release queue. -/
theorem moves_idleTank (k : TankIx) : Moves ctl rel s (idleTank k s) := by
  refine .after (moves_tankGo fun _ => mayEnter_of_not_mem (by simp) nofun) (.after (.of_sound fun g => moves_setDisch id fun hr => ?_)
    (moves_setTank_of_state rfl id id))
  obtain ⟨hnd, hqueued, -⟩ := g.release hr
  exact ⟨hnd.filter _, fun u hu => hqueued u (List.mem_of_mem_filter hu)⟩

theorem moves_stopTank (k : TankIx) : Moves ctl rel s (stopTank k s).2 := by
  unfold stopTank
  split
  · exact .refl s
  split
  · exact .refl s
  · exact .refl s
  · exact .refl s
  all_goals exact moves_idleTank k

theorem moves_closeFillCommand (k : TankIx) : Moves ctl rel s (closeFillCommand k s).2 := by
  unfold closeFillCommand
  split
  · exact .refl s
  split
  · exact .refl s
  · next hfill =>
    rw [ne_eq, Decidable.not_not] at hfill
    split
    · exact .refl s
    · exact .of_sound fun g => moves_closeOfFill _ fun hr => (g.release hr).not_mem (by simp [hfill])

theorem moves_setClockCommand (body : List Byte) : Moves ctl rel s (setClockCommand body s).2 := by
  unfold setClockCommand
  dsimp only
  split
  · exact .refl s
  · exact .after moves_recomputeDay (moves_setDisch_of_queue rfl id)

theorem moves_maskCommand (held : Bool) (body : List Byte) : Moves ctl rel s (maskCommand held body s).2 := by
  unfold maskCommand
  split
  · exact .refl s
  · exact moves_setReports_of_entries rfl

/-- R90: a PASS_SET that passes finds room and neither part condition. -/
theorem passCheck_ok {n : NodeIx} {c : Channel} {v : Nat} {w : Nat × Bool} (h : passCheck s n c v = .ok w) :
    s.port.fallback = false ∧ s.port.safeHold = false ∧ s.line.passQ.length < 4 := by
  unfold passCheck at h
  split at h
  · cases h
  split at h
  · cases h
  · next hf =>
    split at h
    · cases h
    · next hh =>
      split at h
      · cases h
      · split at h
        · cases h
        · next hroom => exact ⟨by simpa using hf, by simpa using hh, Nat.lt_of_not_le hroom⟩

theorem moves_joinPass {n : NodeIx} {c : Channel} {v : Nat} {w : Nat × Bool} (tag : Byte) (h : passCheck s n c v = .ok w) :
    Moves ctl rel s (joinPass tag n c w s) := by
  obtain ⟨hf, hh, hroom⟩ := passCheck_ok h
  refine ⟨fun g => ⟨⟨rfl, id, id, fun _ => ⟨?_, fun hp => ?_⟩, id, id, id, id, id⟩, g.control, g.release⟩⟩
  · simpa [joinPass] using hroom
  · simp [joinPass, hf, hh] at hp

theorem moves_runPassSet (r : Request) : Moves ctl rel s (runPassSet r s) := by
  unfold runPassSet
  split
  · exact moves_answer ..
  · split
    · exact moves_answer ..
    · next h => exact moves_joinPass r.tag h

/-! ### Part conditions -/

theorem moves_flushPass (code : Code) : Moves ctl rel s (flushPass code s) :=
  .after (Moves.foldl (fun _ _ => moves_passResult ..) _ _)
    (.of_sound fun g => moves_setLine ⟨Nat.zero_le _, fun _ => rfl⟩ id fun hc => g.control hc)

/-- The part with the SAFE-HOLD flag set. -/
def held (s : State) : State := s.setPort { s.port with safeHold := true }

@[simp] theorem held_line (s : State) : (held s).line = s.line := rfl
@[simp] theorem held_actuator (a : ActIx) (s : State) : (held s).actuator a = s.actuator a := rfl
@[simp] theorem held_pin (p : PinIx) (s : State) : (held s).pin p = s.pin p := rfl

/-- R72: nothing of the field line reads the SAFE-HOLD flag, which can as well be set after it. -/
theorem abandon_held (x : Exchange) (s : State) : abandon x (held s) = held (abandon x s) := by
  unfold abandon
  split
  · split <;> rfl
  · split <;> rfl
  · rfl

theorem raiseAllSafe_held (s : State) : raiseAllSafe (held s) = held (raiseAllSafe s) := by
  have hset : (held s).setLine { s.line with allSafePending := true } = held (s.setLine { s.line with allSafePending := true }) := rfl
  have hhold (h : Hold) (s : State) : setHold h (held s) = held (setHold h s) := rfl
  unfold raiseAllSafe
  simp only [held_line, hset, State.setLine_line, abandon_held, hhold]
  split
  · split <;> rfl
  · rfl

theorem applyPin_held (a : ActIx) (p : PinIx) (s : State) : applyPin a p (held s) = held (applyPin a p s) := by
  unfold applyPin
  rw [held_pin]
  split <;> rfl

theorem safeEntry_held (a : ActIx) (s : State) : safeEntry a (held s) = held (safeEntry a s) := by
  have hset (x : Actuator) : (held s).setActuator a x = held (s.setActuator a x) := rfl
  have hwithdraw (s : State) : withdraw a (held s) = held (withdraw a s) := rfl
  have hsettle (s : State) : settleIdle a (held s) = held (settleIdle a s) := rfl
  unfold safeEntry
  simp only [held_actuator, hset, applyPin_held, hwithdraw, hsettle]
  split
  · rfl
  · rfl
  · split
    · split <;> rfl
    · rfl

theorem actuatorsSafe_held (s : State) : actuatorsSafe (held s) = held (actuatorsSafe s) := by
  unfold actuatorsSafe
  generalize List.finRange 16 = l
  induction l generalizing s with
  | nil => rfl
  | cons a l ih => rw [List.foldl_cons, safeEntry_held, ih]; rfl

/-- R199: the SAFE-HOLD flag, set when the pass-through queue has been emptied. -/
theorem enterSafeHold_eq (s : State) :
    enterSafeHold s = stopRelease .safeHold (cellsSafe (held (flushPass .held (actuatorsSafe (raiseAllSafe s))))) := by
  have hflush (s : State) : flushPass .held (held s) = held (flushPass .held s) := by
    rw [flushPass_eq, flushPass_eq]; rfl
  change stopRelease .safeHold (cellsSafe (flushPass .held (actuatorsSafe (raiseAllSafe (held s))))) = _
  rw [raiseAllSafe_held, actuatorsSafe_held, hflush]

theorem moves_held (h : s.line.passQ = []) : Moves ctl rel s (held s) := moves_setPort id id fun _ => .inr (.inr h)

theorem moves_enterSafeHold : Moves ctl rel s (enterSafeHold s) := by
  rw [enterSafeHold_eq]
  exact .after (moves_stopRelease _) (.after moves_cellsSafe (.after (moves_held (by rw [flushPass_eq])) (.after (moves_flushPass .held)
    (.after moves_actuatorsSafe moves_raiseAllSafe))))

theorem moves_allSafeCommand (args : List Byte) : Moves ctl rel s (allSafeCommand args s).2 := by
  dsimp only [allSafeCommand, accepted]
  split
  · exact .refl s
  · exact moves_enterSafeHold

theorem moves_leaveFallback : Moves ctl rel s (leaveFallback s) := by
  unfold leaveFallback
  split
  · refine .after (moves_raiseAlert ..) (moves_setPort id id ?_)
    rintro (h | h)
    · cases h
    · exact .inr (.inl h)
  · exact .refl s

theorem moves_leaveSafeHold : Moves ctl rel s (leaveSafeHold s) := by
  unfold leaveSafeHold
  split
  · refine .after (Moves.foldl (fun _ k => moves_tankRequest k) _ _) (moves_setPort id id ?_)
    rintro (h | h)
    · exact .inl h
    · cases h
  · exact .refl s

theorem moves_resumeCommand (args : List Byte) : Moves ctl rel s (resumeCommand args s).2 :=
  .after moves_leaveSafeHold moves_leaveFallback

theorem moves_endExecution (tag : Byte) : Moves ctl rel s (endExecution tag s) :=
  .after (moves_setPort_of_eq rfl rfl rfl rfl) (moves_pushItem nofun)

end Sys2Proof.Machine
end


section
/-! The invariants that every step keeps, and that no command stops the part: O3 and O57 to O60. Every row of the table moves the
state, and so does quiet time. -/

namespace Sys2Proof.Machine

variable {ctl rel : Prop} {s t : State}

/-! ### The Plant Port -/

theorem moves_setRx (rx : Option (List Byte)) : Moves ctl rel s (setRx rx s) := moves_setPort_of_eq rfl rfl rfl rfl

theorem moves_takeFrameRequest (r : Request) : Moves ctl rel s (takeFrameRequest r s) := by
  unfold takeFrameRequest
  split
  · next hroom =>
    refine moves_setPort (fun _ => ?_) id (by tauto)
    simpa using hroom
  split
  · next hroom =>
    refine moves_setPort id (fun _ => ?_) (by tauto)
    simp only [fullAnswers, State.setPort_port, List.filter_append, List.length_append]
    exact Nat.succ_le_of_lt hroom
  · exact .refl s

theorem moves_completeFrame (bs : List Byte) : Moves ctl rel s (completeFrame bs s) := by
  unfold completeFrame
  dsimp only
  split
  · exact .after (moves_takeFrameRequest _) (moves_setPort_of_eq rfl rfl rfl rfl)
  · exact .refl s

theorem moves_receiveByte (b : Byte) : Moves ctl rel s (receiveByte s b) := by
  unfold receiveByte
  split
  · split
    · exact moves_setRx _
    · exact .refl s
  · unfold afterByte
    dsimp only
    split
    · exact moves_setRx _
    split
    · exact moves_setRx _
    · exact .after (moves_completeFrame _) (moves_setRx _)

theorem moves_startFrame (kind : Nat) (tag : Byte) (body : List Byte) (resetOk : Bool) :
    Moves ctl rel s (startFrame kind tag body resetOk s) :=
  .after (moves_setReports_of_entries rfl) (moves_setPort_of_eq rfl rfl rfl rfl)

theorem moves_startResult {r : ResultItem} {rest : List ResultItem} (h : s.port.results = r :: rest) :
    Moves ctl rel s (startResult r rest s) := by
  refine .after (moves_startFrame ..) (moves_setPort id (fun hle => ?_) (by tauto))
  refine le_trans (List.Sublist.length_le (List.Sublist.filter _ ?_)) hle
  rw [h]
  exact List.sublist_cons_self r rest

theorem moves_transmitNext : Moves ctl rel s (transmitNext s) := by
  unfold transmitNext
  split
  · next h => exact moves_startResult h
  · split
    · exact .after (moves_startFrame ..) (moves_setReports (queueInv_of_sublist List.eraseP_sublist))
    · exact .refl s

theorem enterFallback_eq (s : State) :
    enterFallback s = stopRelease .fallback (((flushPass .fallback (raiseAlert .fallbackEntered .part [s.line.params.silence] s)).setPort
      { (flushPass .fallback (raiseAlert .fallbackEntered .part [s.line.params.silence] s)).port with fallback := true })) := by
  simp only [enterFallback, flushPass_eq]
  rfl

theorem moves_enterFallback : Moves ctl rel s (enterFallback s) := by
  have hset {s : State} (h : s.line.passQ = []) : Moves ctl rel s (s.setPort { s.port with fallback := true }) :=
    moves_setPort id id fun _ => .inr (.inr h)
  rw [enterFallback_eq]
  exact .after (moves_stopRelease _) (.after (hset (by rw [flushPass_eq])) (.after (moves_flushPass _) (moves_raiseAlert ..)))

theorem moves_silenceExpired : Moves ctl rel s (silenceExpired s) := by
  have hset : Moves ctl rel s (s.setPort { s.port with silence := none }) := moves_setPort_of_eq rfl rfl rfl rfl
  unfold silenceExpired
  dsimp only
  split
  · exact hset
  · exact hset.trans moves_enterFallback

/-! ### Resets -/

theorem reset_lineInv : LineInv State.reset :=
  ⟨Nat.zero_le _, trivial, fun n => by simp [State.node, State.reset, nodeInv]⟩

theorem reset_cellsInv : CellsInv State.reset := fun e => by simp [State.cell, State.reset, cellInv]

theorem reset_chainsInv : ChainsInv State.reset := fun k => by simp [State.chain, State.reset, chainInv]

theorem reset_residuesInv : ResiduesInv State.reset := by
  simp [ResiduesInv, State.stream, State.tank, State.chain, State.cell, State.reset, streamResidues, tankResidues, chainResidues]

theorem reset_sumsInv : SumsInv State.reset := by
  simp [SumsInv, State.stream, State.tank, State.chain, State.cell, State.reset, streamSums, tankSums, chainSums, cellSums, accountSums]

theorem reset_controlInv : ControlInv State.reset := ⟨List.nodup_nil, nofun, nofun⟩

theorem reset_releaseInv : ReleaseInv State.reset :=
  ⟨List.nodup_nil, nofun, fun t u h => by simp [State.tank, State.reset] at h⟩

/-- R202: a part with every block at its reset values, whatever its commands, its straps and pins and its reports. -/
theorem moves_blank {port : PlantPort} {reports : ReportQueue} {allSafe : Bool} {pins : Vector Pin 12}
    (hreq : port.requests = []) (hres : port.results = []) (hrep : queueInv reports) :
    Moves ctl rel s { State.reset with pending := s.pending, port := port, reports := reports,
                                       line := { State.reset.line with allSafePending := allSafe }, pins := pins } where
  of_start _ :=
    ⟨⟨rfl, fun _ => hrep, fun _ => by simp [RequestsInv, fullAnswers, hreq, hres], fun _ => ⟨Nat.zero_le _, fun _ => rfl⟩,
      fun _ => reset_lineInv, fun _ => reset_cellsInv, fun _ => reset_chainsInv, fun _ => reset_residuesInv, fun _ => reset_sumsInv⟩,
      fun _ => reset_controlInv, fun _ => reset_releaseInv⟩

theorem moves_endReset (cause : ResetCause) : Moves ctl rel s (endReset cause s) :=
  moves_blank rfl rfl ⟨Nat.succ_le_succ (Nat.zero_le 31), by simp [alertKeys, alertKey]⟩

theorem moves_beginReset {mark : PlantPort → PlantPort} (hreq : ∀ p, (mark p).requests = p.requests)
    (hres : ∀ p, (mark p).results = p.results) : Moves ctl rel s (beginReset mark s) :=
  moves_blank (hreq _) (hres _) ⟨Nat.zero_le _, List.nodup_nil⟩

theorem moves_finishReset (hi lo : Bool) : Moves ctl rel s (finishReset hi lo s) := by
  unfold finishReset
  split
  · exact .refl s
  · exact .after (moves_setPort_of_eq rfl rfl rfl rfl) (moves_endReset _)

/-! ### Time -/

/-- The part one millisecond later, outside a reset: each timer's remaining time counts down. -/
def ticked (s : State) : State :=
  { s with
    port := { s.port with silence := countDown s.port.silence }
    actuators := eachOf (fun a => { a with retry := countDown a.retry }) s.actuators
    pins := eachOf (fun p => { p with debounce := countDown p.debounce }) s.pins
    cells := eachOf (fun c => { c with regTimer := countDown c.regTimer }) s.cells
    chains := eachOf (fun k => { k with metering := countDown k.metering }) s.chains
    tanks := eachOf
      (fun t => { t with dwell := countDown t.dwell, test := countDown t.test, metering := countDown t.metering }) s.tanks
    timers :=
      { account := s.timers.account - 1, age := s.timers.age - 1, sampling := s.timers.sampling - 1,
        scan := s.timers.scan - 1, discharge := s.timers.discharge - 1 } }

theorem quietTime_of_inReset (h : s.inReset = true) : quietTime s = s := by simp [quietTime, h]

theorem quietTime_of_not_inReset (h : s.inReset = false) : quietTime s = ticked s := by simp [quietTime, h, ticked]

theorem ticked_actuator (s : State) (a : ActIx) :
    (ticked s).actuator a = { s.actuator a with retry := countDown (s.actuator a).retry } := by simp [ticked, State.actuator]

theorem ticked_pin (s : State) (p : PinIx) : (ticked s).pin p = { s.pin p with debounce := countDown (s.pin p).debounce } := by
  simp [ticked, State.pin]

theorem ticked_cell (s : State) (e : CellIx) : (ticked s).cell e = { s.cell e with regTimer := countDown (s.cell e).regTimer } := by
  simp [ticked, State.cell]

theorem ticked_chain (s : State) (k : ChainIx) :
    (ticked s).chain k = { s.chain k with metering := countDown (s.chain k).metering } := by simp [ticked, State.chain]

theorem ticked_tank (s : State) (k : TankIx) :
    (ticked s).tank k =
      { s.tank k with
        dwell := countDown (s.tank k).dwell
        test := countDown (s.tank k).test
        metering := countDown (s.tank k).metering } := by
  simp [ticked, State.tank]

theorem moves_ticked : Moves ctl rel s (ticked s) := by
  refine ⟨fun g => ⟨⟨rfl, id, id, id, id, fun h e => ?_, fun h k => ?_, ?_, ?_⟩, fun hc => ?_, fun hr => ?_⟩⟩
  · rw [ticked_cell]; exact h e
  · rw [ticked_chain]; exact h k
  · rintro ⟨hi, ht, hk, he⟩
    exact ⟨hi, fun t => by rw [ticked_tank]; exact ht t, fun k => by rw [ticked_chain]; exact hk k,
      fun e => by rw [ticked_cell]; exact he e⟩
  · rintro ⟨hi, ht, hk, he, hrest⟩
    exact ⟨hi, fun t => by rw [ticked_tank]; exact ht t, fun k => by rw [ticked_chain]; exact hk k,
      fun e => by rw [ticked_cell]; exact he e, hrest⟩
  · obtain ⟨hnd, hwait, hfly⟩ := g.control hc
    exact ⟨hnd, fun a ha => by rw [ticked_actuator]; exact hwait a ha, fun x a hx hj => by rw [ticked_actuator]; exact hfly x a hx hj⟩
  · obtain ⟨hnd, hqueued, hone⟩ := g.release hr
    exact ⟨hnd, fun t ht => by rw [ticked_tank]; exact hqueued t ht, fun t u => by rw [ticked_tank, ticked_tank]; exact hone t u⟩

theorem moves_quietTime : Moves ctl rel s (quietTime s) := by
  cases h : s.inReset
  · rw [quietTime_of_not_inReset h]; exact moves_ticked
  · rw [quietTime_of_inReset h]; exact .refl s

/-! ### Every row -/

/-- The answer is a next state to which the part moves. -/
def Answers (ctl rel : Prop) (s : State) (o : Answer) : Prop := ∃ t, o = .next t ∧ Moves ctl rel s t

theorem answers_next (h : Moves ctl rel s t) : Answers ctl rel s (.next t) := ⟨t, rfl, h⟩

theorem answers_live {f : State → State} (h : Moves ctl rel s (f s)) : Answers ctl rel s (s.live f) := by
  refine answers_next ?_
  split
  · exact .refl s
  · exact h

theorem moves_takeRequest {sel : Request → Bool} {f : Request → State → State} (h : ∀ r s, Moves ctl rel s (f r s)) :
    Moves ctl rel s (takeRequest sel f s) := by
  unfold takeRequest
  split
  · exact .refl s
  split
  · exact moves_popRequest.trans (h _ _)
  · exact .refl s

theorem answers_loadRequest {n : Nat} {table : Table} {block : Fin n → List Byte → State → Code × State}
    (h : ∀ i r s, Moves ctl rel s (block i r s).2) : Answers ctl rel s (loadRequest table block s) := by
  refine answers_live (moves_takeRequest fun r s => .after (moves_answer ..) ?_)
  unfold loadChecked
  dsimp only
  split
  · exact .refl s
  split
  · exact .refl s
  split
  · exact h _ _ s
  · exact .refl s

theorem answers_readRequest {n : Nat} {table : Table} {content : State → Fin n → List Byte} :
    Answers ctl rel s (readRequest table content s) := by
  refine answers_live (moves_takeRequest fun r s => ?_)
  split
  · exact moves_answer ..
  split
  · exact moves_answer ..
  split
  · exact moves_answerWith ..
  · exact moves_answer ..

theorem answers_commandRequest {c : Command} {run : List Byte → State → Code × State}
    (h : ∀ args s, Moves ctl rel s (run args s).2) : Answers ctl rel s (commandRequest c run s) :=
  answers_live (moves_takeRequest fun r s => .after (moves_answer ..) (h r.body s))

theorem answers_indexCommand {n : Nat} {c : Command} {f : Fin n → State → Code × State} (h : ∀ i s, Moves ctl rel s (f i s).2) :
    Answers ctl rel s (commandRequest c (onIndex f) s) :=
  answers_commandRequest fun args s => moves_onIndex (fun i => h i s) args

theorem answers_requestFrameSent : Answers ctl rel s (execRequestFrameSent s) := by
  refine answers_live ?_
  split
  · next x hx =>
    split
    · split
      · exact moves_setHold_abandon hx (.inr rfl)
      · exact moves_setHold_exchange hx rfl id
    · exact .refl s
  · exact .refl s

theorem answers_fieldReplyReceived (frame : List Byte) : Answers ctl rel s (execFieldReplyReceived frame s) := by
  refine answers_live ?_
  split
  · next x hx =>
    split
    · exact moves_takeFrame frame hx
    · exact .refl s
  · exact moves_setHold_none
  · exact .refl s

theorem answers_replyWindowClosed : Answers ctl rel s (execReplyWindowClosed s) := by
  refine answers_live ?_
  split
  · next x hx =>
    split
    · exact moves_silentAttempt hx
    · exact .refl s
  · exact moves_setHold_none
  · exact .refl s

theorem answers_silentAttemptResend : Answers ctl rel s (execSilentAttemptResend s) := by
  refine answers_live ?_
  split
  · next x hx =>
    split
    · exact moves_setHold_exchange hx rfl id
    · exact .refl s
  · exact .refl s

theorem answers_holdoffDelayExpiry : Answers ctl rel s (execHoldoffDelayExpiry s) := by
  refine answers_live ?_
  split
  · next x hx =>
    split
    · exact moves_setHold_exchange hx rfl id
    · exact .refl s
  · exact .refl s

/-- A row that acts only when a condition holds. -/
theorem moves_ite {p : Prop} [Decidable p] {f : State} (h : p → Moves ctl rel s f) : Moves ctl rel s (if p then f else s) := by
  split
  · next hp => exact h hp
  · exact .refl s

theorem answers_plantFrameSent : Answers ctl rel s (execPlantFrameSent s) := by
  refine answers_live ?_
  split
  · exact .refl s
  split
  · exact moves_endReset _
  · exact moves_setPort_of_eq rfl rfl rfl rfl

theorem answers_counterEdge (p : PinIx) (level : Bool) : Answers ctl rel s (execCounterEdge p level s) := by
  have hset : Moves ctl rel s (s.setPin p { s.pin p with level := level }) := moves_setPin ..
  unfold execCounterEdge
  obtain ⟨t, ht, h⟩ := answers_live (ctl := ctl) (rel := rel) (s := s.setPin p { s.pin p with level := level })
    (f := fun s => match (s.pin p).fn with
      | .counter q e c => if qualifies e level then countPulse q c s else s
      | _ => s) (by
    dsimp only
    split
    · exact moves_ite fun _ => moves_countPulse ..
    · exact .refl _)
  exact ⟨t, ht, hset.trans h⟩

theorem answers_pwmFrameStart (e : CellIx) : Answers ctl rel s (execPwmFrameStart e s) :=
  answers_live (moves_ite fun _ => moves_setCell (fun h => ⟨fun hr => ⟨(h.1 hr).1, (h.1 hr).1⟩, h.2⟩) id id)

theorem answers_finishReset {b : Bool} {p : PlantPort} (hi lo : Bool) (hreq : p.requests = s.port.requests)
    (hres : p.results = s.port.results) (hf : p.fallback = s.port.fallback) (hh : p.safeHold = s.port.safeHold) :
    Answers ctl rel s (.next (if b then finishReset hi lo (s.setPort p) else s)) :=
  answers_next (moves_ite fun _ => .after (moves_finishReset hi lo) (moves_setPort_of_eq hreq hres hf hh))

theorem answers_plantFrameReceived (heard : List Byte) : Answers ctl rel s (execPlantFrameReceived heard s) :=
  answers_live (f := fun s => heard.foldl receiveByte s) (Moves.foldl (fun _ b => moves_receiveByte b) heard s)

theorem answers_scanClockStep : Answers ctl rel s (execScanClockStep s) := by
  refine answers_live (.after (moves_setTimers _) ?_)
  exact moves_setLine_of_eq rfl rfl id rfl id

theorem answers_ageTimerExpiry : Answers ctl rel s (execAgeTimerExpiry s) := by
  refine answers_live ⟨fun g => ⟨?_, g.control, g.release⟩⟩
  exact ⟨rfl, id, id, id, id, id, id, id, id⟩

theorem answers_retryTimerExpiry (a : ActIx) : Answers ctl rel s (execRetryTimerExpiry a s) :=
  answers_live (moves_ite fun _ => .after (moves_drainFailed a) (moves_retryExpired a))

theorem answers_accountTimerExpiry : Answers ctl rel s (execAccountTimerExpiry s) :=
  answers_live (.after moves_stepStreams (moves_setTimers _))

theorem answers_analogSamplingRound (l8 l9 l10 l11 : Conversion) : Answers ctl rel s (execAnalogSamplingRound l8 l9 l10 l11 s) :=
  answers_live (.after moves_samplingEvent (.after (moves_conversionRound ..) (moves_setTimers _)))

/-- The rows of the table: each answers a next state to which the part moves. -/
theorem answers_exec (c : Instr) (s : State) : Answers ctl rel s (exec c s) := by
  cases c with
  | plantFrameReceived heard => exact answers_plantFrameReceived heard
  | plantFrameGapTimeout => exact answers_live (moves_setRx _)
  | otherKindRequest => exact answers_live (moves_takeRequest fun _ _ => moves_answer ..)
  | badTableRequest => exact answers_live (moves_takeRequest fun _ _ => moves_answer ..)
  | unknownCommandCode => exact answers_live (moves_takeRequest fun _ _ => moves_answer ..)
  | loadPoint => exact answers_loadRequest fun i r _ => moves_loadPointRecord i r
  | loadCurve => exact answers_loadRequest fun i r _ => moves_loadCurveRecord i r
  | loadScan => exact answers_loadRequest fun i r _ => moves_loadScanRecord i r
  | loadStream => exact answers_loadRequest fun i r _ => moves_loadStreamRecord i r
  | loadActuator => exact answers_loadRequest fun i r _ => moves_loadActuatorRecord i r
  | loadCell => exact answers_loadRequest fun i r _ => moves_loadCellRecord i r
  | loadChain => exact answers_loadRequest fun i r _ => moves_loadChainRecord i r
  | loadTank => exact answers_loadRequest fun i r _ => moves_loadTankRecord i r
  | loadPermit => exact answers_loadRequest fun i r _ => moves_loadPermitRecord i r
  | loadPinmap => exact answers_loadRequest fun i r _ => moves_loadPinRecord i r
  | loadInterlock => exact answers_loadRequest fun i r _ => moves_loadInterlockRecord i r
  | loadClassmap => exact answers_loadRequest fun i r _ => moves_loadClassRecord i r
  | loadLine => exact answers_loadRequest fun i r _ => moves_loadLineRecord i r
  | readPoint => exact answers_readRequest
  | readCurve => exact answers_readRequest
  | readScan => exact answers_readRequest
  | readStream => exact answers_readRequest
  | readActuator => exact answers_readRequest
  | readInterlock => exact answers_readRequest
  | readCell => exact answers_readRequest
  | readChain => exact answers_readRequest
  | readTank => exact answers_readRequest
  | readPermit => exact answers_readRequest
  | readPinmap => exact answers_readRequest
  | readClassmap => exact answers_readRequest
  | readLine => exact answers_readRequest
  | startStream => exact answers_indexCommand fun i _ => moves_startStream i
  | stopStream => exact answers_indexCommand fun i _ => moves_stopStream i
  | startCell => exact answers_indexCommand fun i _ => moves_startCellCommand i
  | harvestCell => exact answers_indexCommand fun i _ => moves_harvestCell i
  | endHarvest => exact answers_indexCommand fun i _ => moves_endHarvest i
  | clearCell => exact answers_indexCommand fun i _ => moves_clearCell i
  | installCartridge => exact answers_commandRequest fun args _ => moves_onIndex (fun k => moves_installCommand args k) args
  | removeCartridge => exact answers_commandRequest fun args _ => moves_onIndex (fun k => moves_removeCommand args k) args
  | startTank => exact answers_indexCommand fun i _ => moves_startTank i
  | stopTank => exact answers_indexCommand fun i _ => moves_stopTank i
  | closeFill => exact answers_indexCommand fun i _ => moves_closeFillCommand i
  | setClock => exact answers_commandRequest fun args _ => moves_setClockCommand args
  | maskClass => exact answers_commandRequest fun args _ => moves_maskCommand true args
  | unmaskClass => exact answers_commandRequest fun args _ => moves_maskCommand false args
  | passSet => exact answers_live (moves_takeRequest fun r _ => moves_runPassSet r)
  | allSafe => exact answers_commandRequest fun args _ => moves_allSafeCommand args
  | resume => exact answers_commandRequest fun args _ => moves_resumeCommand args
  | keepalive => exact answers_live (moves_takeRequest fun _ _ => moves_answerWith ..)
  | resetPart => exact answers_live (moves_takeRequest fun r _ => moves_endExecution r.tag)
  | transmitNextFrame => exact answers_live (moves_ite fun _ => moves_transmitNext)
  | plantFrameSent => exact answers_plantFrameSent
  | silenceTimerExpiry => exact answers_live (moves_ite fun _ => moves_silenceExpired)
  | lineFree => exact answers_live (moves_ite fun h => moves_schedule h)
  | requestFrameSent => exact answers_requestFrameSent
  | fieldReplyReceived frame => exact answers_fieldReplyReceived frame
  | fieldFrameDiscarded frame => exact answers_next (.refl s)
  | replyWindowClosed => exact answers_replyWindowClosed
  | silentAttemptResend => exact answers_silentAttemptResend
  | holdoffDelayExpiry => exact answers_holdoffDelayExpiry
  | allSafeFrameSent => exact answers_live (moves_ite fun _ => moves_setHold (fun _ => trivial) nofun)
  | allSafeComplete => exact answers_live (moves_ite fun _ => .after moves_actuatorsConfirmed moves_setHold_none)
  | scanClockStep => exact answers_scanClockStep
  | retryTimerExpiry a => exact answers_retryTimerExpiry a
  | accountTimerExpiry => exact answers_accountTimerExpiry
  | ageTimerExpiry => exact answers_ageTimerExpiry
  | analogSamplingRound l8 l9 l10 l11 => exact answers_analogSamplingRound l8 l9 l10 l11
  | pinLevelChange p level => exact answers_next (moves_setPin ..)
  | debounceTimerExpiry p => exact answers_live (f := fun s => s.setPin p (debounceExpired (s.pin p))) (moves_setPin ..)
  | counterEdge p level => exact answers_counterEdge p level
  | pwmFrameStart e => exact answers_pwmFrameStart e
  | regulationTimerExpiry e => exact answers_live (moves_regulationExpired e)
  | chainMetering k => exact answers_live (moves_chainExpired k)
  | tankMetering k => exact answers_live (moves_tankExpired k)
  | dwellTimerExpiry k => exact answers_live (moves_dwellExpired k)
  | testTimerExpiry k => exact answers_live (moves_testExpired k)
  | dischargeTimerExpiry => exact answers_live moves_dischargeTick
  | powerReset => exact answers_next (moves_beginReset (fun _ => rfl) fun _ => rfl)
  | powerResetEnd hi lo => exact answers_finishReset hi lo rfl rfl rfl rfl
  | resetPinAsserted => exact answers_next (moves_beginReset (fun _ => rfl) fun _ => rfl)
  | resetPinReleased hi lo => exact answers_finishReset hi lo rfl rfl rfl rfl

/-! ### Every step -/

/-- Taking a command off the queue of waiting commands touches no invariant, and neither does what a step then does. -/
theorem step_keeps (h : step s = .next t) (g : Sound ctl rel s) :
    ((ReportsInv s → ReportsInv t) ∧ (RequestsInv s → RequestsInv t) ∧ (PassInv s → PassInv t)) ∧
      ((LineInv s → LineInv t) ∧ (CellsInv s → CellsInv t) ∧ (ChainsInv s → ChainsInv t) ∧ (ResiduesInv s → ResiduesInv t) ∧
        (SumsInv s → SumsInv t)) ∧ Sound ctl rel t := by
  unfold step at h
  split at h
  · cases h
    obtain ⟨k, g⟩ := moves_quietTime.of_start g
    exact ⟨⟨k.reports, k.requests, k.pass⟩, ⟨k.line, k.cells, k.chains, k.residues, k.sums⟩, g⟩
  · next c rest _ =>
    obtain ⟨t', ht, hm⟩ := answers_exec (ctl := ctl) (rel := rel) c (s.setPending rest)
    rw [ht] at h
    cases h
    obtain ⟨k, g⟩ := hm.of_start ⟨g.control, g.release⟩
    exact ⟨⟨k.reports, k.requests, k.pass⟩, ⟨k.line, k.cells, k.chains, k.residues, k.sums⟩, g⟩

/-- Settles O3: every row answers a next state, and moves the part. -/
theorem commandsAnswerAndLeaveTheQueue : Obligations.CommandsAnswerAndLeaveTheQueue := by
  intro c s
  obtain ⟨t, ht, hm⟩ := answers_exec (ctl := False) (rel := False) c s
  exact ⟨t, ht, (hm.of_start ⟨nofun, nofun⟩).1.pending⟩

/-- Settles O57: these three invariants are kept whatever else holds. -/
theorem stepsKeepTheQueues : Obligations.StepsKeepTheQueues := fun _ _ h =>
  (step_keeps (ctl := False) (rel := False) h ⟨nofun, nofun⟩).1

/-- Settles O58. -/
theorem stepsKeepTheControlQueue : Obligations.StepsKeepTheControlQueue := fun s _ hs h =>
  (step_keeps (ctl := ControlInv s) (rel := False) h ⟨id, nofun⟩).2.2.control hs

/-- Settles O59: these five invariants are kept whatever else holds. -/
theorem stepsKeepEveryCountInRange : Obligations.StepsKeepEveryCountInRange := fun _ _ h =>
  (step_keeps (ctl := False) (rel := False) h ⟨nofun, nofun⟩).2.1

/-- Settles O60. -/
theorem stepsKeepTheReleaseQueue : Obligations.StepsKeepTheReleaseQueue := fun s _ hs h =>
  (step_keeps (ctl := False) (rel := ReleaseInv s) h ⟨nofun, id⟩).2.2.release hs

end Sys2Proof.Machine
end


section
/-! The step, quiet time and the resets: O1, O2, O4, O5 and O6. -/

namespace Sys2Proof.Machine

variable {s : State}

/-- Settles O1. -/
theorem stepRunsFrontCommand : Obligations.StepRunsFrontCommand := by
  intro c rest s h
  simp only [step, h]
  rfl

/-- Settles O2: outside a reset quiet time is `ticked`, read timer by timer. -/
theorem quietTimeOnEmptyQueue : Obligations.QuietTimeOnEmptyQueue := by
  intro s h
  have hstep : step s = .next (quietTime s) := by simp only [step, h]
  refine ⟨fun hr => by rw [hstep, quietTime_of_inReset hr], fun hr => ⟨ticked s, by rw [hstep, quietTime_of_not_inReset hr], ?_⟩⟩
  exact ⟨rfl, rfl, ticked_actuator s, ticked_pin s, ticked_cell s, ticked_chain s, ticked_tank s, rfl⟩

/-- R107: resetting every pin leaves the levels that stand on them. -/
theorem resetPins_eq (s : State) : eachOf resetPin s.pins = barePins s := eachOf_eq_map ..

/-- R202: the blocks after a reset, with its cause. -/
theorem endReset_eq (cause : ResetCause) (s : State) :
    endReset cause s = afterReset cause s.port.strapHi s.port.strapLo s.port.rate s := by
  simp only [endReset, clearAll, resetPins_eq, causeFigure_eq]
  rfl

theorem finishReset_eq (hi lo : Bool) (hp : s.port.powerReset = false) (hpin : s.port.pinReset = false) :
    finishReset hi lo s = afterReset (if s.port.powerSeen then .power else .pin) hi lo (rateOf hi lo) s := by
  simp only [finishReset, hp, hpin, Bool.or_self, Bool.false_eq_true, if_false, endReset_eq]
  rfl

/-- Settles O4: by which of the two resets are in progress and whether the supply had fallen. -/
theorem resetEndLeavesTheResetState : Obligations.ResetEndLeavesTheResetState := by
  intro s hi lo
  have hpower (h : s.port.powerReset = true) :
      exec (.powerResetEnd hi lo) s = .next (finishReset hi lo (s.setPort { s.port with powerReset := false })) := by
    simp only [exec, execPowerResetEnd, h, if_true]
  have hpin (h : s.port.pinReset = true) :
      exec (.resetPinReleased hi lo) s = .next (finishReset hi lo (s.setPort { s.port with pinReset := false })) := by
    simp only [exec, execResetPinReleased, h, if_true]
  refine ⟨fun h h' h'' => ?_, fun h h' h'' => ?_, fun h h' h'' => ?_, fun h h' => ⟨?_, ?_⟩, fun f hr htx hok => ?_⟩
  · rw [hpower h, finishReset_eq (s := s.setPort { s.port with powerReset := false }) hi lo rfl h']
    simp only [State.setPort_port, h'', if_true]
    rfl
  · rw [hpin h, finishReset_eq (s := s.setPort { s.port with pinReset := false }) hi lo h' rfl]
    simp only [State.setPort_port, h'', Bool.false_eq_true, if_false]
    rfl
  · rw [hpin h, finishReset_eq (s := s.setPort { s.port with pinReset := false }) hi lo h' rfl]
    simp only [State.setPort_port, h'', if_true]
    rfl
  · rw [hpower h]
    simp only [finishReset, State.setPort_port, h', Bool.or_true, if_true]
    rfl
  · rw [hpin h']
    simp only [finishReset, State.setPort_port, h, Bool.true_or, if_true]
    rfl
  · change execPlantFrameSent s = _
    rw [execPlantFrameSent, live_of_not_inReset hr]
    simp only [htx, hok, if_true, commandReset, endReset_eq]

theorem beginReset_eq (mark : PlantPort → PlantPort) (s : State) :
    beginReset mark s =
      { cutOff s.port.powerReset s.port.pinReset s.port.powerSeen s with
        port := mark (cutOff s.port.powerReset s.port.pinReset s.port.powerSeen s).port } := by
  simp only [beginReset, clearAll, resetPins_eq]
  rfl

/-- Settles O5: a row that is live changes nothing during a reset, and every other row is named by `actsInReset`. -/
theorem resetsCutOffAllActivity : Obligations.ResetsCutOffAllActivity := by
  refine ⟨fun s => ⟨?_, ?_⟩, fun c s hr hacts => ?_⟩
  · exact congrArg Host.Outcome.next (beginReset_eq _ s)
  · exact congrArg Host.Outcome.next (beginReset_eq _ s)
  · have hlive (f : State → State) : s.live f = .next s := live_of_inReset hr f
    cases c with
    | powerReset | powerResetEnd | resetPinAsserted | resetPinReleased | pinLevelChange | counterEdge => cases hacts
    | fieldFrameDiscarded => rfl
    | plantFrameReceived | plantFrameSent | requestFrameSent | fieldReplyReceived | replyWindowClosed | silentAttemptResend
    | holdoffDelayExpiry | scanClockStep | accountTimerExpiry | ageTimerExpiry | analogSamplingRound | debounceTimerExpiry
    | pwmFrameStart =>
      simp only [exec, execPlantFrameReceived, execPlantFrameSent, execRequestFrameSent, execFieldReplyReceived,
        execReplyWindowClosed, execSilentAttemptResend, execHoldoffDelayExpiry, execScanClockStep, execAccountTimerExpiry,
        execAgeTimerExpiry, execAnalogSamplingRound, execDebounceTimerExpiry, execPwmFrameStart, hlive]
    | _ => exact hlive _

/-- Settles O6. -/
theorem resetStateHoldsTheSpecValues : Obligations.ResetStateHoldsTheSpecValues := by
  have hreports : ReportsInv State.reset := ⟨Nat.succ_le_succ (Nat.zero_le 31), by simp [alertKeys, alertKey, State.reset]⟩
  have hrequests : RequestsInv State.reset := ⟨Nat.zero_le _, Nat.zero_le _⟩
  have hpass : PassInv State.reset := ⟨Nat.zero_le _, fun _ => rfl⟩
  refine ⟨fun i => ?_, rfl, fun p => ?_, fun c => ?_, fun a => ?_, fun i => ?_, fun p => ?_, fun q => ?_, fun e => ?_, fun k => ?_,
    fun t => ?_, rfl, rfl, fun n => ?_, fun i => ?_, rfl, rfl, rfl, rfl, rfl, rfl, rfl, rfl, rfl, rfl, rfl, rfl, rfl, rfl,
    hreports, hrequests, hpass, reset_controlInv, reset_lineInv, reset_cellsInv, reset_chainsInv, reset_residuesInv, reset_sumsInv,
    reset_releaseInv⟩
  · simp [State.stream, State.reset]
  · simp [State.point, State.reset]
  · simp [State.curve, State.reset]
  · simp [State.actuator, State.reset]
  · simp [State.interlock, State.reset]
  · simp [State.pin, State.reset]
  · simp [State.counter, State.reset]
  · simp [State.cell, State.reset]
  · simp [State.chain, State.reset]
  · simp [State.tank, State.reset]
  · simp [State.node, State.reset]
  · simp [State.scanEntry, State.reset]

end Sys2Proof.Machine
end


section
/-! The plant line: receiving frames (O7, O8) and the silence timer (O10). -/

namespace Sys2Proof.Machine

variable {s : State}

theorem setRx_setRx (x y : Option (List Byte)) (s : State) : setRx x (setRx y s) = setRx x s := rfl

theorem setRx_self (h : s.port.rx = none) : setRx none s = s := by
  change { s with port := { s.port with rx := none } } = s
  rw [← h]

theorem receiveByte_start (h : s.port.rx = none) : receiveByte s 90 = setRx (some []) s := by simp [receiveByte, h]

/-- R192: a byte that leaves the frame incomplete joins the bytes after the start byte. -/
theorem receiveByte_incomplete {bs : List Byte} {b : Byte} (h : s.port.rx = some bs) (hlow : 2 ≤ fieldAt (bs ++ [b]) 0 1)
    (hhigh : fieldAt (bs ++ [b]) 0 1 ≤ 242) (hlen : (bs ++ [b]).length < fieldAt (bs ++ [b]) 0 1 + 3) :
    receiveByte s b = setRx (some (bs ++ [b])) s := by
  have hrange : ¬ (fieldAt (bs ++ [b]) 0 1 < 2 ∨ 242 < fieldAt (bs ++ [b]) 0 1) := by omega
  simp only [receiveByte, h, afterByte, Bool.or_eq_true, decide_eq_true_eq, hrange, hlen, if_false, if_true]

/-- R192: as long as a frame is incomplete its bytes are kept. -/
theorem foldl_receiveByte_incomplete {n : Byte} (hlow : 2 ≤ n.toNat) (hhigh : n.toNat ≤ 242) (bytes : List Byte) :
    ∀ (pre : List Byte) (s : State), s.port.rx = some (n :: pre) → pre.length + bytes.length < n.toNat + 2 →
      bytes.foldl receiveByte s = setRx (some (n :: pre ++ bytes)) s := by
  induction bytes with
  | nil =>
    intro pre s h _
    rw [List.append_nil, ← h]
    rfl
  | cons b bytes ih =>
    intro pre s h hlen
    rw [List.length_cons] at hlen
    have hfield : fieldAt (n :: pre ++ [b]) 0 1 = n.toNat := fieldAt_head ..
    have hstep : receiveByte s b = setRx (some (n :: (pre ++ [b]))) s :=
      receiveByte_incomplete h (hfield ▸ hlow) (hfield ▸ hhigh) (by rw [hfield]; simp; omega)
    rw [List.foldl_cons, hstep, ih (pre ++ [b]) _ rfl (by simp; omega), setRx_setRx]
    simp

/-- R192, R193, R204: the bytes of the layout of 12.2 are taken when their last two are the CRC-16 of those before, and discarded
otherwise. -/
theorem foldl_receiveByte_frame (kind tag c1 c2 : Byte) {body : List Byte} (hrx : s.port.rx = none) (hbody : body.length ≤ 240) :
    (90 :: coveredBytes kind tag body ++ [c1, c2]).foldl receiveByte s =
      if [c1, c2] = be 2 (crc16 (coveredBytes kind tag body)).toNat then acceptFrame { kind := kind, tag := tag, body := body } s
      else s := by
  set n : Byte := BitVec.ofNat 8 (body.length + 2) with hn
  have hnat : n.toNat = body.length + 2 := by simp [hn]; omega
  have hcovered : coveredBytes kind tag body = n :: kind :: tag :: body := by simp [coveredBytes, be_one, hn]
  have hfield (bs : List Byte) : fieldAt (n :: bs) 0 1 = body.length + 2 := by rw [fieldAt_head, hnat]
  have hone : receiveByte (setRx (some []) s) n = setRx (some [n]) s := by
    have hfirst : fieldAt ([] ++ [n]) 0 1 = body.length + 2 := hfield []
    exact receiveByte_incomplete (bs := []) (b := n) rfl (by omega) (by omega) (by rw [hfirst]; simp)
  have hmost : (kind :: tag :: body ++ [c1]).foldl receiveByte (setRx (some [n]) s) =
      setRx (some (n :: (kind :: tag :: body ++ [c1]))) s :=
    foldl_receiveByte_incomplete (by omega) (by omega) _ [] _ rfl (by simp [hnat])
  have hlast : receiveByte (setRx (some (n :: (kind :: tag :: body ++ [c1]))) s) c2 =
      completeFrame (n :: (kind :: tag :: body ++ [c1]) ++ [c2]) (setRx none s) := by
    have hrange : ¬ (body.length + 2 < 2 ∨ 242 < body.length + 2) := by omega
    have hwhole : ¬ (n :: (kind :: tag :: body ++ [c1]) ++ [c2]).length < body.length + 2 + 3 := by simp
    have hf : fieldAt (n :: (kind :: tag :: body ++ [c1]) ++ [c2]) 0 1 = body.length + 2 := hfield _
    change afterByte (n :: (kind :: tag :: body ++ [c1]) ++ [c2]) _ = _
    simp only [afterByte, hf, Bool.or_eq_true, decide_eq_true_eq, hrange, hwhole, if_false, setRx_setRx]
  have hsplit : (90 :: coveredBytes kind tag body ++ [c1, c2]) = 90 :: n :: (kind :: tag :: body ++ [c1]) ++ [c2] := by
    simp [hcovered]
  have hfold : (90 :: n :: (kind :: tag :: body ++ [c1]) ++ [c2]).foldl receiveByte s =
      receiveByte ((kind :: tag :: body ++ [c1]).foldl receiveByte (receiveByte (receiveByte s 90) n)) c2 := by
    simp only [List.cons_append, List.foldl_cons, List.foldl_append, List.foldl_nil]
  rw [hsplit, hfold, receiveByte_start hrx, hone, hmost, hlast, setRx_self hrx]
  have htake : (n :: (kind :: tag :: body ++ [c1]) ++ [c2]).take (body.length + 2 + 1) = n :: kind :: tag :: body := by
    simp
  have hdrop : (n :: (kind :: tag :: body ++ [c1]) ++ [c2]).drop (body.length + 2 + 1) = [c1, c2] := by simp
  have hf : fieldAt (n :: (kind :: tag :: body ++ [c1]) ++ [c2]) 0 1 = body.length + 2 := hfield _
  simp only [completeFrame, hf, htake, hdrop, crcBytes, hcovered]
  rfl

/-- R193: a request finds room in the queue, or among the QUEUE_FULL answers, or none. -/
theorem takeFrameRequest_of_room (r : Request) (h : s.port.requests.length < 4) :
    takeFrameRequest r s = s.setPort { s.port with requests := s.port.requests ++ [r] } := if_pos h

theorem takeFrameRequest_of_full (r : Request) (h : 4 ≤ s.port.requests.length) (h' : fullAnswers s < 4) :
    takeFrameRequest r s =
      pushItem { tag := r.tag, code := .queueFull, part := 0, last := true, content := [], origin := .queueFull } s :=
  (if_neg (Nat.not_lt.mpr h)).trans (if_pos h')

theorem takeFrameRequest_of_no_room (r : Request) (h : 4 ≤ s.port.requests.length) (h' : 4 ≤ fullAnswers s) :
    takeFrameRequest r s = s := (if_neg (Nat.not_lt.mpr h)).trans (if_neg (Nat.not_lt.mpr h'))

/-- Settles O7: by what the request queue and the QUEUE_FULL answers leave room for. -/
theorem everyValidFrameIsTakenAsItsRequest : Obligations.EveryValidFrameIsTakenAsItsRequest := by
  intro s kind tag body hr hrx hbody
  obtain ⟨c1, c2, hcrc⟩ : ∃ c1 c2, be 2 (crc16 (coveredBytes kind tag body)).toNat = [c1, c2] := ⟨_, _, rfl⟩
  have hexec : exec (.plantFrameReceived (90 :: coveredBytes kind tag body ++ be 2 (crc16 (coveredBytes kind tag body)).toNat)) s =
      .next (takeFrameRequest { kind := kind, tag := tag, body := body } (restartSilence s)) := by
    simp only [exec, execPlantFrameReceived]
    rw [live_of_not_inReset hr, hcrc, foldl_receiveByte_frame kind tag c1 c2 hrx hbody, if_pos hcrc.symm]
    rfl
  refine ⟨fun h => ?_, fun h h' => ?_, fun h h' => ?_⟩
  · exact hexec.trans (congrArg Host.Outcome.next (takeFrameRequest_of_room (s := restartSilence s) _ h))
  · exact hexec.trans (congrArg Host.Outcome.next (takeFrameRequest_of_full (s := restartSilence s) _ h h'))
  · exact hexec.trans (congrArg Host.Outcome.next (takeFrameRequest_of_no_room (s := restartSilence s) _ h h'))

/-- Settles O8. -/
theorem brokenFramesAreDiscarded : Obligations.BrokenFramesAreDiscarded := by
  intro s hr
  have hexec (heard : List Byte) : exec (.plantFrameReceived heard) s = .next (heard.foldl receiveByte s) := by
    simp only [exec, execPlantFrameReceived]
    rw [live_of_not_inReset hr]
  refine ⟨fun kind tag c1 c2 body hrx hbody hcrc => ?_, fun n hrx hn => ?_, fun b hrx hb => ?_, ?_⟩
  · rw [hexec, foldl_receiveByte_frame kind tag c1 c2 hrx hbody, if_neg hcrc]
  · have hfield : fieldAt ([] ++ [n]) 0 1 = n.toNat := fieldAt_head ..
    have hstep : receiveByte (setRx (some []) s) n = setRx none s := by
      change afterByte ([] ++ [n]) _ = _
      simp only [afterByte, hfield, Bool.or_eq_true, decide_eq_true_eq, hn, if_true, setRx_setRx]
    rw [hexec, List.foldl_cons, receiveByte_start hrx, List.foldl_cons, hstep, setRx_self hrx, List.foldl_nil]
  · rw [hexec, List.foldl_cons, List.foldl_nil]
    simp only [receiveByte, hrx, if_neg hb]
  · exact live_of_not_inReset hr _

/-! ### Silence -/

theorem stopFigures_eq (code : StopCause) (x : Tank) :
    [stopCauseCode code, batchNumber x, remainingEstimate x] = stopFigures (stopCauseCode code) x := by
  unfold stopFigures batchNumber remainingEstimate
  cases x.batch <;> rfl

theorem stopRelease_of_none (h : releasingTank s = none) (cause : StopCause) : stopRelease cause s = s := by
  simp only [stopRelease, h]

/-- R179: a stop for a cause other than EFFLUENT. -/
theorem stopRelease_of_some {k : TankIx} (h : releasingTank s = some k) {cause : StopCause} (hc : cause ≠ .effluent) :
    stopRelease cause s = afterStop k (stopCauseCode cause) s := by
  have hstop : stopRelease cause s = raiseStopped k cause (requeue k s) := by
    cases cause with
    | effluent => exact absurd rfl hc
    | _ => simp only [stopRelease, h]
  have htank : (requeue k s).tank k = { s.tank k with state := .queued } := by simp [requeue, tankGo_tank]
  have hfigures : [stopCauseCode cause, batchNumber { s.tank k with state := .queued },
      remainingEstimate { s.tank k with state := .queued }] = stopFigures (stopCauseCode cause) (s.tank k) := stopFigures_eq cause (s.tank k)
  have hclock : (requeue k s).clock = s.clock := by simp [requeue, tankGo, State.clock]
  rw [hstop, raiseStopped, htank, hfigures, raiseAlert_eq, hclock]
  rfl

/-- R66, R198: a part that has entered FALLBACK, before a release stops. -/
def inFallback (s : State) : State :=
  { s with
    port :=
      { s.port with
        silence := none
        fallback := true
        results := s.port.results ++ s.line.passQ.map fun e => passResultOf e.tag .fallback [] }
    line := { s.line with passQ := [] }
    reports := s.reports.raise (.alert .fallbackEntered .part [s.line.params.silence] s.clock) }

theorem silenceExpired_of_fallback (h : s.port.fallback = true) :
    silenceExpired s = s.setPort { s.port with silence := none } := if_pos h

theorem silenceExpired_of_no_fallback (h : s.port.fallback = false) : silenceExpired s = stopRelease .fallback (inFallback s) := by
  have henter : silenceExpired s = enterFallback (s.setPort { s.port with silence := none }) := if_neg (by simp [h])
  rw [henter, enterFallback, flushPass_eq]
  rfl

/-- Settles O10. -/
theorem silenceExpiryEntersFallback : Obligations.SilenceExpiryEntersFallback := by
  intro s n hr hsilence
  have hexec : exec .silenceTimerExpiry s = .next (silenceExpired s) := by
    simp only [exec, execSilenceTimerExpiry]
    rw [live_of_not_inReset hr, hsilence]
    rfl
  refine ⟨fun hf => by rw [hexec, silenceExpired_of_fallback hf]; rfl, fun hf => ⟨fun hnone => ?_, fun k hk => ?_⟩⟩
  · rw [hexec, silenceExpired_of_no_fallback hf, stopRelease_of_none (s := inFallback s) hnone]
    rfl
  · have hstop : stopRelease .fallback (inFallback s) = afterStop k 4 (inFallback s) := stopRelease_of_some (s := inFallback s) (cause := .fallback) hk nofun
    rw [hexec, silenceExpired_of_no_fallback hf, hstop]
    rfl

end Sys2Proof.Machine
end


section
/-! The Plant Port's own checks and answers: O11. -/

namespace Sys2Proof.Machine

variable {s : State} {r : Request} {rest : List Request} {tag : Byte} {c : Instr} {code : Code}

/-- A row that takes the request at the head of the queue and only answers it. -/
theorem refusedWith_of_answer (h : Executing s r rest) {sel : Request → Bool} (hsel : sel r = true) {f : Request → State → State}
    (hc : exec c s = s.live (takeRequest sel f)) (hf : f r (withRequests s rest) = answer r.tag code (withRequests s rest)) :
    RefusedWith c s rest r.tag code := by
  rw [RefusedWith, hc, live_of_not_inReset h.1, takeRequest_executing h hsel, hf, answer_eq]
  rfl

/-- R195: the Plant Port's checks of a LOAD, by the index and the record's length. -/
theorem loadChecked_of_badIndex {n i : Nat} {t : Table} {record : List Byte} {block : Fin n → List Byte → State → Code × State}
    (hi : i < 256) (h : n ≤ i) : loadChecked t block (loadOf t i record tag).body s = (.badIndex, s) := by
  simp [loadChecked, loadOf, fieldAt_second, Nat.mod_eq_of_lt hi, index?_of_le h, refused]

theorem loadChecked_of_badLength {n i : Nat} {t : Table} {record : List Byte} {block : Fin n → List Byte → State → Code × State}
    (hi : i < 256) (h : i < n) (hlen : record.length ≠ recordLength t record) :
    loadChecked t block (loadOf t i record tag).body s = (.badValue, s) := by
  simp [loadChecked, loadOf, fieldAt_second, Nat.mod_eq_of_lt hi, index?, h, hlen, refused]

theorem loads_badIndex {n i : Nat} {t : Table} {record : List Byte} {block : Fin n → List Byte → State → Code × State}
    (hi : i < 256) (hex : Executing s (loadOf t i record tag) rest) (hc : exec c s = loadRequest t block s) (h : n ≤ i) :
    RefusedWith c s rest tag .badIndex := by
  refine refusedWith_of_answer hex (isLoad_loadOf ..) hc ?_
  dsimp only
  rw [loadChecked_of_badIndex hi h]

theorem loads_badLength {n i : Nat} {t : Table} {record : List Byte} {block : Fin n → List Byte → State → Code × State}
    (hi : i < 256) (hex : Executing s (loadOf t i record tag) rest) (hc : exec c s = loadRequest t block s) (h : i < n)
    (hlen : record.length ≠ recordLength t record) : RefusedWith c s rest tag .badValue := by
  refine refusedWith_of_answer hex (isLoad_loadOf ..) hc ?_
  dsimp only
  rw [loadChecked_of_badLength hi h hlen]

/-- The row of a table executes its LOAD with the table's own block. -/
theorem exec_loadRow (t : Table) :
    ∃ block : Fin (tableSize t) → List Byte → State → Code × State, ∀ s, exec (loadRow t) s = loadRequest t block s := by
  cases t
  · exact ⟨loadPointRecord, fun _ => rfl⟩
  · exact ⟨loadCurveRecord, fun _ => rfl⟩
  · exact ⟨loadScanRecord, fun _ => rfl⟩
  · exact ⟨loadStreamRecord, fun _ => rfl⟩
  · exact ⟨loadActuatorRecord, fun _ => rfl⟩
  · exact ⟨loadCellRecord, fun _ => rfl⟩
  · exact ⟨loadChainRecord, fun _ => rfl⟩
  · exact ⟨loadTankRecord, fun _ => rfl⟩
  · exact ⟨loadPermitRecord, fun _ => rfl⟩
  · exact ⟨loadPinRecord, fun _ => rfl⟩
  · exact ⟨loadInterlockRecord, fun _ => rfl⟩
  · exact ⟨loadClassRecord, fun _ => rfl⟩
  · exact ⟨loadLineRecord, fun _ => rfl⟩

/-- R196: an index out of its table, before the object's own checks. -/
theorem onIndex_of_badIndex {n : Nat} {f : Fin n → State → Code × State} {code i : Byte} {more : List Byte} (h : n ≤ i.toNat) :
    onIndex f (code :: i :: more) s = (.badIndex, s) := by
  simp [onIndex, fieldAt_second, index?_of_le h, refused]

theorem commands_badIndex {cmd : Command} {n : Nat} {i : Byte} {more : List Byte} {f : List Byte → Fin n → State → Code × State}
    (hl : more.length + 1 = argLength cmd) (hex : Executing s (commandOf cmd (i :: more) tag) rest)
    (hc : exec c s = commandRequest cmd (fun body => onIndex (f body) body) s) (h : n ≤ i.toNat) :
    RefusedWith c s rest tag .badIndex :=
  command_refuses (args := i :: more) hl hex hc (onIndex_of_badIndex h)

/-- The row of an indexed command executes it on the objects of its table. -/
theorem exec_indexedRow {cmd : Command} {row : Instr} {n : Nat} (h : (cmd, row, n) ∈ indexedCommands) :
    ∃ f : List Byte → Fin n → State → Code × State, ∀ s, exec row s = commandRequest cmd (fun body => onIndex (f body) body) s := by
  simp only [indexedCommands, List.mem_cons, List.not_mem_nil, or_false, Prod.mk.injEq] at h
  rcases h with ⟨rfl, rfl, rfl⟩ | ⟨rfl, rfl, rfl⟩ | ⟨rfl, rfl, rfl⟩ | ⟨rfl, rfl, rfl⟩ | ⟨rfl, rfl, rfl⟩ | ⟨rfl, rfl, rfl⟩ |
    ⟨rfl, rfl, rfl⟩ | ⟨rfl, rfl, rfl⟩ | ⟨rfl, rfl, rfl⟩ | ⟨rfl, rfl, rfl⟩ | ⟨rfl, rfl, rfl⟩
  · exact ⟨fun _ => startStream, fun _ => rfl⟩
  · exact ⟨fun _ => stopStream, fun _ => rfl⟩
  · exact ⟨fun _ => startCellCommand, fun _ => rfl⟩
  · exact ⟨fun _ => fromState .run (leaveRun .harvest), fun _ => rfl⟩
  · exact ⟨fun _ => fromState .harvest endHarvest, fun _ => rfl⟩
  · exact ⟨fun _ => fromState .fault clearCell, fun _ => rfl⟩
  · exact ⟨installCommand, fun _ => rfl⟩
  · exact ⟨removeCommand, fun _ => rfl⟩
  · exact ⟨fun _ => startTank, fun _ => rfl⟩
  · exact ⟨fun _ => stopTank, fun _ => rfl⟩
  · exact ⟨fun _ => closeFillCommand, fun _ => rfl⟩

/-- R196: a command's code determines its arguments' length. -/
theorem argLength_of_mem {cmd : Command} {length : Nat} (h : (commandCode cmd, length) ∈ commandLengths) :
    length = argLength cmd := by
  cases cmd <;> simpa [commandLengths, commandCode, argLength] using h

theorem commandCode_range (cmd : Command) : 1 ≤ commandCode cmd ∧ commandCode cmd ≤ 19 := by cases cmd <;> decide

/-- R196: a COMMAND that spells no command. -/
theorem isUnknownCommand_of {b : Byte} {args : List Byte} (hk : r.kind = 3) (hb : r.body = b :: args)
    (h : ∀ cmd, b.toNat = commandCode cmd → args.length ≠ argLength cmd) : isUnknownCommand r = true := by
  simp only [isUnknownCommand, hk, decide_true, Bool.true_and, List.all_eq_true, Bool.not_eq_true', spells, Bool.and_eq_false_iff,
    decide_eq_false_iff_not, hb, fieldAt_head, List.length_cons, Nat.add_right_cancel_iff]
  intro cmd _
  by_cases hcode : b.toNat = commandCode cmd
  · exact .inr (h cmd hcode)
  · exact .inl hcode

theorem live_takeRequest_idle (h : s.port.holding = true ∨ s.port.ended = true ∨ s.port.requests = [])
    (sel : Request → Bool) (f : Request → State → State) : s.live (takeRequest sel f) = .next s := by
  simp [State.live, takeRequest_idle h]

/-- R194, log 1: the rows of the requests execute nothing on a port that does not execute. -/
theorem requestRows_idle (h : s.port.holding = true ∨ s.port.ended = true ∨ s.port.requests = []) (hc : c ∈ requestRows) :
    exec c s = .next s := by
  have hidle := live_takeRequest_idle h
  unfold requestRows at hc
  fin_cases hc <;> exact hidle _ _

/-- Settles O11. -/
theorem plantPortChecksRequests : Obligations.PlantPortChecksRequests := by
  refine ⟨rfl, rfl, fun t i record tag rest s hi hex => ?_, fun cmd row n i more tag rest s hmem hl hn hex => ?_,
    fun r rest s hex => ⟨fun h1 h2 h3 => ?_, fun code tail hk hb hcode => ?_, fun code tail hk hb hcode => ?_,
      fun code args length hk hb hmem hlen => ?_⟩,
    fun c s hc h => requestRows_idle h hc⟩
  · obtain ⟨block, hblock⟩ := exec_loadRow t
    exact ⟨loads_badIndex hi hex (hblock s), loads_badLength hi hex (hblock s)⟩
  · obtain ⟨f, hf⟩ := exec_indexedRow hmem
    exact commands_badIndex hl hex (hf s) hn
  · refine refusedWith_of_answer hex (sel := isOtherKind) ?_ rfl rfl
    simpa [isOtherKind] using ⟨⟨h1, h2⟩, h3⟩
  · refine refusedWith_of_answer hex (sel := isBadTable) ?_ rfl rfl
    simp only [isBadTable, hk, hb, fieldAt_head, List.length_cons, Bool.and_eq_true, Bool.or_eq_true, decide_eq_true_eq,
      Bool.not_eq_true', Bool.and_eq_false_iff, decide_eq_false_iff_not, true_and]
    rcases hcode with rfl | h
    · exact .inl (.inr (by simp))
    · exact .inr (by omega)
  · refine refusedWith_of_answer hex (sel := isUnknownCommand) (isUnknownCommand_of hk hb fun cmd hcmd => ?_) rfl rfl
    have := commandCode_range cmd
    rcases hcode with rfl | h
    · simp at hcmd; omega
    · omega
  · refine refusedWith_of_answer hex (sel := isUnknownCommand) (isUnknownCommand_of hk hb fun cmd hcmd => ?_) rfl rfl
    rwa [← argLength_of_mem (hcmd ▸ hmem)]

end Sys2Proof.Machine
end


section
/-! READs: the answer in parts, and each table's content: O12. -/

namespace Sys2Proof.Machine

variable {s : State} {rest : List Request} {tag : Byte} {c : Instr}

/-! ### The parts of an answer -/

/-- R194: a content as numbered parts of at most 237 bytes, the last one marked. -/
def PartsOf (tag : Byte) (code : Code) (origin : Origin) (n : Nat) (bs : List Byte) (parts : List ResultItem) : Prop :=
  parts ≠ [] ∧ parts.flatMap (·.content) = bs ∧
    ∀ (k : Nat) (r : ResultItem), parts[k]? = some r →
      r = { tag := tag, code := code, part := n + k, last := decide (k + 1 = parts.length), content := r.content, origin := origin } ∧
      r.content.length ≤ 237 ∧ (k + 1 < parts.length → r.content.length = 237)

theorem partsOf_single {tag : Byte} {code : Code} {origin : Origin} {n : Nat} {bs : List Byte} (h : bs.length ≤ 237) :
    PartsOf tag code origin n bs [{ tag, code, part := n, last := true, content := bs, origin }] := by
  refine ⟨nofun, by simp, fun k r hr => ?_⟩
  cases k with
  | zero =>
    cases hr
    exact ⟨rfl, h, fun hlt => absurd hlt (by simp)⟩
  | succ k => simp at hr

theorem partsOf_cons {tag : Byte} {code : Code} {origin : Origin} {n : Nat} {bs : List Byte} {parts : List ResultItem}
    (h : 237 < bs.length) (hrest : PartsOf tag code origin (n + 1) (bs.drop 237) parts) :
    PartsOf tag code origin n bs ({ tag, code, part := n, last := false, content := bs.take 237, origin } :: parts) := by
  obtain ⟨hne, hflat, hparts⟩ := hrest
  have hpos : 0 < parts.length := List.length_pos_iff.mpr hne
  refine ⟨nofun, by rw [List.flatMap_cons, hflat, List.take_append_drop], fun k r hr => ?_⟩
  cases k with
  | zero =>
    cases hr
    refine ⟨?_, by simp, fun _ => by simp; omega⟩
    simp [hne]
  | succ k =>
    obtain ⟨heq, hle, hfull⟩ := hparts k r hr
    refine ⟨heq.trans ?_, hle, fun hlt => hfull (by simpa using hlt)⟩
    simp [Nat.add_assoc, Nat.add_comm 1 k]

theorem resultParts_partsOf (tag : Byte) (code : Code) (origin : Origin) :
    ∀ (fuel n : Nat) (bs : List Byte), bs.length ≤ 237 * (fuel + 1) →
      PartsOf tag code origin n bs (resultParts tag code origin fuel n bs) := by
  intro fuel
  induction fuel with
  | zero => exact fun n bs h => partsOf_single (by simpa using h)
  | succ fuel ih =>
    intro n bs h
    rw [resultParts]
    by_cases hshort : bs.length ≤ 237
    · rw [if_pos (by exact hshort)]
      exact partsOf_single hshort
    · rw [if_neg (by exact hshort)]
      exact partsOf_cons (by omega) (ih (n + 1) _ (by simp; omega))

/-! ### The rows -/

/-- The row of a table executes its READ with the table's own content, which the request queue does not enter. -/
theorem exec_readRow (t : Table) :
    ∃ content : State → Fin (tableSize t) → List Byte,
      (∀ s, exec (readRow t) s = readRequest t content s) ∧ ∀ s rest i, content (withRequests s rest) i = readContent t s i.val := by
  have hat {n : Nat} (f : State → Fin n → List Byte) (s : State) (i : Fin n) : contentAt f s i.val = f s i := by
    simp [contentAt, index?_val]
  cases t
  · exact ⟨readPointContent, fun _ => rfl, fun _ _ _ => (hat ..).symm⟩
  · exact ⟨readCurveContent, fun _ => rfl, fun _ _ _ => (hat ..).symm⟩
  · exact ⟨readScanContent, fun _ => rfl, fun _ _ _ => (hat ..).symm⟩
  · exact ⟨readStreamContent, fun _ => rfl, fun _ _ _ => (hat ..).symm⟩
  · exact ⟨readActuatorContent, fun _ => rfl, fun _ _ _ => (hat ..).symm⟩
  · exact ⟨readCellContent, fun _ => rfl, fun _ _ _ => (hat ..).symm⟩
  · exact ⟨readChainContent, fun _ => rfl, fun _ _ _ => (hat ..).symm⟩
  · exact ⟨readTankContent, fun _ => rfl, fun _ _ _ => (hat ..).symm⟩
  · exact ⟨readPermitContent, fun _ => rfl, fun _ _ _ => (hat ..).symm⟩
  · exact ⟨readPinContent, fun _ => rfl, fun _ _ _ => (hat ..).symm⟩
  · exact ⟨readInterlockContent, fun _ => rfl, fun _ _ _ => (hat ..).symm⟩
  · exact ⟨readClassContent, fun _ => rfl, fun _ _ _ => (hat ..).symm⟩
  · exact ⟨readLineContent, fun _ => rfl, fun _ _ _ => (hat ..).symm⟩

theorem reads_badIndex {n i : Nat} {t : Table} {content : State → Fin n → List Byte} (hi : i < 256)
    (hex : Executing s (readOf t i tag) rest) (hc : exec c s = readRequest t content s) (h : n ≤ i) :
    RefusedWith c s rest tag .badIndex := by
  refine refusedWith_of_answer hex (isRead_readOf ..) hc ?_
  simp [readOf, fieldAt_second, Nat.mod_eq_of_lt hi, index?_of_le h]

theorem tableSize_le (t : Table) : tableSize t ≤ 256 := by cases t <;> decide

/-- R194, R195: a READ of an index in its table answers the content in parts. -/
theorem reads_answer {t : Table} {i : Nat} (h : i < tableSize t) (hex : Executing s (readOf t i tag) rest) :
    exec (readRow t) s =
      .next { s with port :=
        { s.port with
          requests := rest
          results := s.port.results ++ resultParts tag .ok .executed (readContent t s i).length 0 (readContent t s i)
          holding := true } } := by
  obtain ⟨content, hrow, hcontent⟩ := exec_readRow t
  rw [hrow, readRequest_eq (i := ⟨i, h⟩) (tableSize_le t) content hex, hcontent]
  rfl

/-! ### What the contents are -/

theorem contentAt_val {n : Nat} (f : State → Fin n → List Byte) (s : State) (i : Fin n) : contentAt f s i.val = f s i := by
  simp [contentAt, index?_val]

/-- R205: the flag of a record and what it holds, as one layout. -/
theorem loadedBytes_map {α : Type} (n : Nat) (x : Option α) (f : α → List Byte) :
    loadedBytes n (x.map f) = flagByte x.isSome ++ orZeros n x f := by
  cases x <;> simp [loadedBytes, orZeros, flagByte, be_one, List.replicate_succ]

theorem timerBytes_eq (n : Nat) (t : Option Nat) : timerBytes n t = optBytes n (t.map fun ms => (ms + 999) / 1000) := by
  cases t <;> simp [timerBytes, secondsUp, roundUp, Config.secondMs]

theorem flagByte_true : flagByte true = [1] := by decide
theorem flagByte_false : flagByte false = [0] := by decide

theorem flagByte_eq (b : Bool) : flagByte b = be 1 b.toNat := rfl

theorem listBytes_eq {α : Type} (xs : List α) (f : α → List Byte) : listBytes xs f = be 1 xs.length ++ xs.flatMap f := rfl

theorem readContent_point (s : State) (p : PointIx) :
    readContent .point s p = loadedBytes 22 ((s.point p).cfg.map fun c =>
      pointCfgBytes c ++ be 3 (s.point p).value ++ be 1 (qualityCode (s.point p).quality) ++ be 2 (s.point p).age ++
        match c.source with
        | .field .. => be 2 ((s.point p).lastRaw % 65536).toNat
        | .analog _ => be 2 ((s.point p).lastRaw % 65536).toNat
        | .switch _ => be 1 (s.point p).lastRaw.toNat
        | .counter .. => be 4 (s.point p).lastRaw.toNat) := by
  have hrun (c : PointCfg) : pointCfgBytes c ++ pointRunBytes (s.point p) c =
      pointCfgBytes c ++ be 3 (s.point p).value ++ be 1 (qualityCode (s.point p).quality) ++ be 2 (s.point p).age ++
        match c.source with
        | .field .. => be 2 ((s.point p).lastRaw % 65536).toNat
        | .analog _ => be 2 ((s.point p).lastRaw % 65536).toNat
        | .switch _ => be 1 (s.point p).lastRaw.toNat
        | .counter .. => be 4 (s.point p).lastRaw.toNat := by
    simp only [pointRunBytes, List.append_assoc, lastRawBytes]
    cases c.source <;> rfl
  simp only [readContent, contentAt_val, readPointContent, ← loadedBytes_map, hrun]

theorem readContent_curve (s : State) (i : CurveIx) :
    (s.curve i = [] → readContent .curve s i = [0, 0]) ∧
      (s.curve i ≠ [] → readContent .curve s i =
        1 :: be 1 (s.curve i).length ++ (s.curve i).flatMap fun b => rawBytes b.1 ++ be 3 b.2) := by
  simp only [readContent, contentAt_val, readCurveContent, listBytes_eq]
  refine ⟨fun h => by simp [h, flagByte_false, be_one], fun h => ?_⟩
  have hloaded : (s.curve i).isEmpty = false := by simpa using h
  rw [hloaded, Bool.not_false, flagByte_true]
  simp

theorem readContent_scan (s : State) (i : ScanIx) :
    readContent .scan s i = loadedBytes 3 ((s.scanEntry i).slot.map fun c => be 1 c.1.val ++ be 2 c.2)
      ++ optBytes 3 (s.scanEntry i).since ++ be 1 (s.scanEntry i).owed.toNat ++ be 1 (scanOutcomeCode (s.scanEntry i).last) := by
  simp only [readContent, contentAt_val, readScanContent, loadedBytes_map, flagByte_eq]

theorem readContent_stream (s : State) (i : StreamIx) :
    readContent .stream s i = loadedBytes 21 ((s.stream i).cfg.map streamCfgBytes) ++ be 1 (streamStateCode (s.stream i).state)
      ++ be 6 (s.stream i).mass ++ be 6 (s.stream i).volume ++ be 2 (s.stream i).massResidue ++ be 1 (s.stream i).volResidue
      ++ be 4 (s.stream i).snapshot ++ be 3 (s.stream i).rate ++ be 1 (creditedCode (s.stream i).credited)
      ++ be 2 (s.stream i).divertedTime ++ be 4 (s.stream i).estimated ++ be 1 (s.stream i).saturated.toNat
      ++ be 5 (s.stream i).lastMass ++ be 3 (s.stream i).lastVol ++ be 6 s.accounts.unrouted.mass
      ++ be 6 s.accounts.unrouted.volume ++ be 6 s.accounts.ret.mass ++ be 6 s.accounts.ret.volume := by
  simp only [readContent, contentAt_val, readStreamContent, loadedBytes_map, flagByte_eq, streamRunBytes, accountBytes,
    List.append_assoc]

/-- R93: the bytes of the owner that a READ of an actuator names, when there is one. -/
theorem ownerBytes_head (s : State) (a : ActIx) :
    ((∀ o, ¬ Names s o a) → ownerBytes (ownersOf s a).head? = [0, 255]) ∧
      ((∃ o, Names s o a) → ∃ o, Names s o a ∧
        ownerBytes (ownersOf s a).head? = (match o with
          | .stream i => [1, BitVec.ofNat 8 i]
          | .tank t => [2, BitVec.ofNat 8 t]
          | .chain k => [3, BitVec.ofNat 8 k])) := by
  refine ⟨fun h => ?_, fun ⟨o, ho⟩ => ?_⟩
  · have hnil : ownersOf s a = [] := List.eq_nil_iff_forall_not_mem.mpr fun o ho => h o (mem_ownersOf.mp ho)
    rw [hnil]
    simp [ownerBytes, be_one]
  · obtain ⟨first, others, hlist⟩ := List.exists_cons_of_ne_nil (List.ne_nil_of_mem (mem_ownersOf.mpr ho))
    refine ⟨first, mem_ownersOf.mp (hlist ▸ List.mem_cons_self), ?_⟩
    rw [hlist]
    cases first <;> simp [ownerBytes, be_one]

theorem readContent_actuator (s : State) (a : ActIx) :
    readContent .actuator s a = loadedBytes 15 ((s.actuator a).cfg.map fun c =>
      bindingBytes c.binding ++ be 2 c.safe ++ be 2 (s.actuator a).desired ++ optBytes 2 (s.actuator a).confirmed
        ++ be 1 (actStateCode (s.actuator a).state) ++ be 1 (actReasonCode (s.actuator a).reason)
        ++ timerBytes 1 (s.actuator a).retry ++ ownerBytes (ownersOf s a).head?) := by
  simp only [readContent, contentAt_val, readActuatorContent, ← loadedBytes_map, actuatorRunBytes, List.append_assoc]

theorem readContent_interlock_none {i : InterlockIx} (h : s.interlock i = none) :
    readContent .interlock s i = List.replicate 9 0 := by
  simp only [readContent, contentAt_val, readInterlockContent, h, Option.isSome_none, Option.any_none, flagByte_false, orZeros]
  rfl

theorem readContent_interlock_some {i : InterlockIx} {e : Interlock} (h : s.interlock i = some e) :
    readContent .interlock s i = 1 :: interlockBytes e ++ be 1 (condHolds s e.cond).toNat := by
  simp only [readContent, contentAt_val, readInterlockContent, h, Option.isSome_some, Option.any_some, flagByte_true, orZeros]
  rfl

theorem readContent_cell (s : State) (e : CellIx) :
    readContent .cell s e = loadedBytes 23 ((s.cell e).cfg.map cellCfgBytes) ++ be 1 (cellStateCode (s.cell e).state)
      ++ be 1 (cellFaultCode (s.cell e).fault) ++ be 1 (s.cell e).fold ++ be 1 (s.cell e).high ++ be 1 (s.cell e).miss
      ++ be 3 (s.cell e).inflowRate ++ be 2 (s.cell e).target ++ be 2 (s.cell e).effective ++ be 2 (s.cell e).pendingDuty
      ++ be 2 (s.cell e).latchedDuty ++ timerBytes 1 (s.cell e).regTimer ++ be 6 (s.cell e).plated
      ++ be 2 (s.cell e).platedResidue ++ be 6 (s.cell e).inflow := by
  simp only [readContent, contentAt_val, readCellContent, loadedBytes_map, cellRunBytes, List.append_assoc]

theorem readContent_chain (s : State) (k : ChainIx) :
    readContent .chain s k = loadedBytes 12 ((s.chain k).cfg.map chainCfgBytes) ++ positionBytes (s.chain k).posA
      ++ positionBytes (s.chain k).posB ++ be 4 (s.chain k).volume ++ be 1 (s.chain k).run ++ be 6 (s.chain k).unplaced
      ++ be 6 (s.chain k).passed ++ be 2 (s.chain k).passedResidue ++ be 1 (s.chain k).metering.isSome.toNat
      ++ be 1 (accepts s (.chain k)).toNat := by
  simp only [readContent, contentAt_val, readChainContent, loadedBytes_map, chainRunBytes, List.append_assoc, flagByte_eq, accepts]

theorem readContent_tank_none {t : TankIx} (h : (s.tank t).cfg = none) :
    readContent .tank s t =
      List.replicate 36 0 ++ be 6 (s.tank t).fillMass ++ be 6 (s.tank t).fillVol ++ List.replicate 54 0 := by
  simp only [readContent, contentAt_val, readTankContent, h, tankAccepts]
  simp [orZeros, flagByte, be_one, List.replicate_succ]

theorem readContent_tank_some {t : TankIx} {c : TankCfg} (h : (s.tank t).cfg = some c) :
    readContent .tank s t = 1 :: tankCfgBytes c ++ be 1 (tankStateCode (s.tank t).state) ++ be 6 (s.tank t).fillMass
      ++ be 6 (s.tank t).fillVol ++ be 2 (s.tank t).batchNo ++ be 1 (s.tank t).silverSamples ++ be 1 (s.tank t).phSamples
      ++ be 1 (s.tank t).deferred.toNat ++ be 1 (s.tank t).paused.toNat ++ be 4 (s.tank t).outSnapshot
      ++ be 1 (s.tank t).outVolResidue ++ be 2 (s.tank t).outMassResidue ++ timerBytes 2 (s.tank t).dwell
      ++ timerBytes 2 (s.tank t).test ++ be 1 (s.tank t).metering.isSome.toNat ++ loadedBytes 34 ((s.tank t).batch.map batchBytes)
      ++ be 1 (accepts s (.tank t)).toNat := by
  simp only [readContent, contentAt_val, readTankContent, h, loadedBytes_map, Option.isSome_some, flagByte_true, orZeros, tankRunBytes,
    List.append_assoc, accepts]
  rfl

theorem readContent_pinmap (s : State) (p : PinIx) :
    readContent .pinmap s p = 1 :: pinFnBytes (s.pin p).fn
      ++ (match (s.pin p).fn with
        | .unused => List.replicate 14 0
        | .input .. =>
          be 1 (s.pin p).level.toNat ++ be 1 (s.pin p).debounced.toNat ++ be 1 (s.pin p).debounce.isSome.toNat ++ List.replicate 11 0
        | .output inv =>
          List.replicate 3 0 ++ be 1 (s.pin p).drive.toNat ++ be 1 (xor (s.pin p).drive inv).toNat ++ List.replicate 9 0
        | .counter q _ _ => List.replicate 5 0 ++ be 4 (counterValue s q) ++ List.replicate 5 0
        | .cellPwm e _ =>
          List.replicate 9 0 ++ be 1 (s.cell e).cfg.isSome.toNat ++ be 2 (s.cell e).latchedDuty ++ List.replicate 2 0
        | .analog => List.replicate 12 0 ++ be 2 (s.pin p).sample.toNat)
      ++ [0, 1, 2, 3, 4, 5].flatMap fun q : CounterIx => be 2 (s.counter q).toNat := by
  have hlive : pinLiveBytes s (s.pin p) = (match (s.pin p).fn with
        | .unused => List.replicate 14 0
        | .input .. =>
          be 1 (s.pin p).level.toNat ++ be 1 (s.pin p).debounced.toNat ++ be 1 (s.pin p).debounce.isSome.toNat ++ List.replicate 11 0
        | .output inv =>
          List.replicate 3 0 ++ be 1 (s.pin p).drive.toNat ++ be 1 (xor (s.pin p).drive inv).toNat ++ List.replicate 9 0
        | .counter q _ _ => List.replicate 5 0 ++ be 4 (counterValue s q) ++ List.replicate 5 0
        | .cellPwm e _ =>
          List.replicate 9 0 ++ be 1 (s.cell e).cfg.isSome.toNat ++ be 2 (s.cell e).latchedDuty ++ List.replicate 2 0
        | .analog => List.replicate 12 0 ++ be 2 (s.pin p).sample.toNat) := by
    unfold pinLiveBytes
    cases (s.pin p).fn <;> rfl
  have hcounters : List.finRange 6 = [0, 1, 2, 3, 4, 5] := by decide
  simp only [readContent, contentAt_val, readPinContent, hcounters, hlive, flagByte_true]
  rfl

theorem readContent_classmap (s : State) (i : KindIx) :
    readContent .classmap s i = 1 :: be 1 s.reports.classMap[i].val ++ be 1 defaultClasses[i].val
      ++ ([0, 1, 2, 3].flatMap fun c : Sys2Proof.Class => be 1 s.reports.masks[c].toNat)
      ++ ([0, 1, 2, 3].flatMap fun c : Sys2Proof.Class =>
        be 1 (queuedIn s.reports c) ++ be 1 (if s.reports.masks[c] = true then queuedIn s.reports c else 0))
      ++ be 1 s.reports.gap.toNat := by
  have hclasses : List.finRange 4 = [0, 1, 2, 3] := by decide
  have hmasks : s.reports.masks.toList.flatMap flagByte = [0, 1, 2, 3].flatMap fun c : Sys2Proof.Class => be 1 s.reports.masks[c].toNat := by
    have hlist : s.reports.masks.toList = (List.finRange 4).map fun c => s.reports.masks[c] := by
      refine List.ext_getElem (by simp) fun k _ _ => by simp
    rw [hlist, List.flatMap_map, hclasses]
    rfl
  simp only [readContent, contentAt_val, readClassContent, hmasks, hclasses, maskedIn, flagByte_true]
  rfl

theorem readContent_line (s : State) :
    readContent .line s 0 = 1 :: lineBytes s.line.params ++ (s.line.nodes.toList.map nodeBytes).flatten ++ be 1 s.line.controlQ.length
      ++ (s.line.controlQ.flatMap fun a => be 1 a.val) ++ be 1 s.line.passQ.length
      ++ be 1 s.line.allSafePending.toNat ++ be 1 (decide (s.line.hold = .allSafeSending)).toNat
      ++ be 1 (decide (s.line.hold = .allSafeSettling)).toNat ++ be 1 s.line.setRun := by
  change readLineContent s 0 = _
  simp only [readLineContent, listBytes_eq, List.append_assoc, flagByte_true, List.flatMap_def]
  rfl

/-! ### The permit -/

theorem drainParts_getElem? {k : Nat} {b : Bool} (h : (drainParts s)[k]? = some b) : b = true ↔ DrainPart s (k + 1) := by
  match k with
  | 0 => cases h; simp [DrainPart, Option.isSome_iff_ne_none]
  | 1 => cases h; simp [DrainPart, Option.isSome_iff_ne_none]
  | 2 => cases h; simp [DrainPart]
  | 3 => cases h; simp [DrainPart]
  | 4 => cases h; simp [DrainPart, budgetLeft, Option.any_eq_true]
  | 5 => cases h; simp [DrainPart, effluentSilverOk, Option.any_eq_true]
  | 6 => cases h; simp [DrainPart, effluentPhOk, Option.any_eq_true, and_assoc]
  | _ + 7 => cases h

/-- R181: the first failing part of the DRAIN-accepting condition. -/
theorem drainFailure_spec (h : ¬ DrainOpen s) : ¬ DrainPart s (drainFailure s) ∧ ∀ k, k < drainFailure s → DrainPart s k := by
  have hclosed : drainAccepts s = false := by rw [← drainAccepts_iff] at h; simpa using h
  have hfail : drainFailure s = (drainParts s).findIdx (!·) + 1 := by simp [drainFailure, hclosed]
  obtain ⟨b, hb, hfalse⟩ : ∃ b ∈ drainParts s, (!b) = true := by simpa [drainAccepts] using hclosed
  have hlt := List.findIdx_lt_length_of_exists ⟨b, hb, hfalse⟩
  rw [hfail]
  refine ⟨fun hpart => ?_, fun k hk => ?_⟩
  · have htrue := (drainParts_getElem? (List.getElem?_eq_getElem hlt)).mpr hpart
    have hnot := List.findIdx_getElem (w := hlt)
    simp [htrue] at hnot
  · cases k with
    | zero => trivial
    | succ k =>
      have hk' : k < (drainParts s).findIdx (!·) := Nat.lt_of_succ_lt_succ hk
      have hbefore := List.not_of_lt_findIdx hk'
      exact (drainParts_getElem? (List.getElem?_eq_getElem (hk'.trans hlt))).mp (by simpa using hbefore)

theorem drainFailure_of_open (h : DrainOpen s) : drainFailure s = 0 := by
  simp [drainFailure, drainAccepts_iff.mpr h]

/-- R181: a number that names the first failing part, or 0, is the one that a READ answers. -/
theorem drainFailure_unique {failing : Nat} (hopen : DrainOpen s → failing = 0)
    (hclosed : ¬ DrainOpen s → ¬ DrainPart s failing ∧ ∀ k, k < failing → DrainPart s k) : failing = drainFailure s := by
  by_cases h : DrainOpen s
  · rw [hopen h, drainFailure_of_open h]
  · obtain ⟨hnot, hbefore⟩ := hclosed h
    obtain ⟨hnot', hbefore'⟩ := drainFailure_spec h
    rcases Nat.lt_trichotomy failing (drainFailure s) with hlt | heq | hgt
    · exact absurd (hbefore' _ hlt) hnot
    · exact heq
    · exact absurd (hbefore _ hgt) hnot'

theorem readContent_permit (s : State) :
    readContent .permit s 0 = loadedBytes 26 (s.disch.permit.map permitCfgBytes) ++ be 1 s.disch.permit.isSome.toNat
      ++ optBytes 3 s.disch.permitDay ++ be 6 s.disch.consumed ++ be 6 (remainingBudget s) ++ be 2 s.disch.released
      ++ be 3 s.disch.peak ++ be 1 s.disch.lowAlerted.toNat ++ be 1 s.disch.exhaustedAlerted.toNat ++ clockBytes s.disch.clock
      ++ be 1 (drainAccepts s).toNat ++ be 1 (drainFailure s) ++ be 1 s.disch.queue.length
      ++ s.disch.queue.flatMap (queuedBytes s) ++ releasingBytes s := by
  change readPermitContent s 0 = _
  simp only [readPermitContent, loadedBytes_map, permitRunBytes, listBytes_eq, List.append_assoc, flagByte_eq, State.clock]

theorem queuedBytes_eq (s : State) (t : TankIx) :
    queuedBytes s t = be 1 t.val ++ (match (s.tank t).batch with
      | some b => be 2 b.number ++ be 6 (b.estimate - b.released)
      | none => be 2 0 ++ be 6 0) := by
  simp only [queuedBytes, batchNumber, remainingEstimate, List.append_assoc]
  cases (s.tank t).batch <;> rfl

theorem releasingBytes_of_none (h : releasingTank s = none) : releasingBytes s = [255, 0, 0, 0, 0, 0, 0, 0, 0] := by
  simp only [releasingBytes, h]
  decide

theorem releasingBytes_of_some {t : TankIx} {b : Batch} (h : releasingTank s = some t) (hb : (s.tank t).batch = some b) :
    releasingBytes s = be 1 t.val ++ be 2 b.number ++ be 6 b.released := by
  simp only [releasingBytes, h, batchNumber, releasedMass, hb]

/-! ### O12 -/

/-- R205: every code that a content carries. -/
theorem readCodes :
    [Quality.none, .good, .limited, .stale, .failed].map qualityCode = [0, 1, 2, 3, 4] ∧
    [ScanOutcome.none, .reading, .holdoffLimit, .silent, .abandoned].map scanOutcomeCode = [0, 1, 2, 3, 4] ∧
    [StreamState.offline, .active, .diverted, .fault].map streamStateCode = [1, 2, 3, 4] ∧
    [Credited.none, .primary, .divert, .unrouted].map creditedCode = [0, 1, 2, 3] ∧
    [ActState.idle, .pending, .inFlight, .refused, .failed].map actStateCode = [1, 2, 3, 4, 5] ∧
    [ActReason.none, .notAllowed, .outOfRange, .localMode, .silent, .holdoffLimit, .unmapped].map actReasonCode =
      [0, 1, 2, 3, 4, 5, 6] ∧
    [CellState.idle, .run, .harvest, .fault].map cellStateCode = [1, 2, 3, 4] ∧
    [CellFault.none, .sulfideRisk, .senseLost].map cellFaultCode = [0, 1, 2] ∧
    [PosState.empty, .lead, .lag, .spent].map posStateCode = [1, 2, 3, 4] ∧
    [TankState.idle, .filling, .mixing, .testing, .queued, .releasing, .rework].map tankStateCode = [1, 2, 3, 4, 5, 6, 7] ∧
    [NodeState.unknown, .online, .suspect, .lost].map nodeStateCode = [1, 2, 3, 4] ∧
    [FailReason.silent, .holdoffLimit].map failReasonCode = [1, 2] ∧
    [ResetCause.power, .pin, .command].map resetCauseCode = [1, 2, 3] := by decide

/-- Settles O12: the answer in parts, the codes, and each table's content. -/
theorem readsAnswerTheContentInParts : Obligations.ReadsAnswerTheContentInParts := by
  have hcodes := readCodes
  refine ⟨fun t i tag rest s hi hex => ⟨fun h => ?_, fun h => ?_⟩, ?_, fun s => ?_⟩
  · obtain ⟨content, hrow, -⟩ := exec_readRow t
    exact reads_badIndex hi hex (hrow s) h
  · obtain ⟨hne, hflat, hparts⟩ :=
      resultParts_partsOf tag .ok .executed (readContent t s i).length 0 (readContent t s i) (by omega)
    refine ⟨_, reads_answer h hex, hne, hflat, fun k r hr => ?_⟩
    obtain ⟨heq, hlen⟩ := hparts k r hr
    rw [Nat.zero_add] at heq
    exact ⟨heq, hlen⟩
  · obtain ⟨h1, h2, h3, h4, h5, h6, h7, h8, h9, h10, h11, h12, h13⟩ := hcodes
    exact ⟨h1, h2, h3, h4, h5, h6, h7, h8, h9, h10, h11, h12, h13, batchBytes_eq_laidOut, clockBytes_eq_laidOut,
      fun n => ⟨rfl, fun x => rfl⟩, rawBytes_eq⟩
  · intro seconds
    refine ⟨readContent_point s, readContent_curve s, readContent_scan s, readContent_stream s, fun a => ?_, fun i => ?_, fun e => ?_,
      fun k accepting haccepts => ?_, fun t accepting haccepts => ?_, fun accepting failing haccepts hopen hclosed => ?_,
      readContent_pinmap s, readContent_classmap s, ?_⟩
    · obtain ⟨hnone, hsome⟩ := ownerBytes_head s a
      refine ⟨ownerBytes (ownersOf s a).head?, hnone, hsome, ?_⟩
      rw [readContent_actuator, timerBytes_eq]
    · refine ⟨readContent_interlock_none, fun e he => ⟨fun h => ?_, fun h => ?_⟩⟩
      · rw [readContent_interlock_some he, condHolds_iff.mpr h]
        rfl
      · rw [← condHolds_iff, Bool.not_eq_true] at h
        rw [readContent_interlock_some he, h]
        rfl
    · rw [readContent_cell, timerBytes_eq]
    · rw [readContent_chain, Bool.eq_iff_iff.mpr (accepts_iff.trans haccepts.symm)]
      rfl
    · rw [← Bool.eq_iff_iff.mpr (accepts_iff.trans haccepts.symm)]
      refine ⟨readContent_tank_none, fun c hc => ?_⟩
      rw [readContent_tank_some hc, timerBytes_eq, timerBytes_eq]
    · rw [drainFailure_unique hopen hclosed, ← Bool.eq_iff_iff.mpr (drainAccepts_iff.trans haccepts.symm)]
      refine ⟨releasingBytes s, releasingBytes_of_none, fun t b => releasingBytes_of_some, ?_⟩
      rw [readContent_permit, funext (queuedBytes_eq s)]
      rfl
    · refine ⟨s.line.nodes.toList.map nodeBytes, by simp, fun n => ?_, readContent_line s⟩
      have hnode : s.line.nodes.toList[n.val]? = some (s.node n) := by simp [State.node]
      rw [List.getElem?_map, hnode]
      rfl

end Sys2Proof.Machine
end


section
/-! LOAD records of points, curves, scan entries, streams, actuators and cells: O13. A parser answers exactly the content that its
record spells, and the bytes of a READ spell the fields that they code. -/

namespace Sys2Proof.Machine

variable {r : List Byte}

/-! ### Reading a coded record back -/

/-- R205: a record of the table's length that spells a content, and is not of kind NONE, is read as that content. -/
theorem ReadsRecords.content {α : Type} {t : Table} {length : List Byte → Nat} {body : List Byte → Body α}
    {Spells : List Byte → α → Prop} {c : α} (h : ReadsRecords t length body Spells) (hlen : r.length = length r)
    (hkind : numberAt r 0 1 ≠ 0) (hspells : Spells r c) : body r = .content c :=
  ((h r).2 hlen).2.1 c hkind hspells

theorem Coded.ne_zero {α : Type} {list : List α} {x : α} {code : Nat} (h : Coded list x code) : code ≠ 0 := h.1

theorem optIndexByte_eq {n : Nat} (x : Option (Fin n)) : optIndexByte x = be 1 (x.elim 255 (·.val)) := by
  cases x
  · simp [optIndexByte, optBytes, be_one]
  · rfl

theorem indexCoded_elim {n : Nat} (h : n ≤ 255) (x : Option (Fin n)) : IndexCoded x (x.elim 255 (·.val) % 256) := by
  cases x with
  | none => rfl
  | some i => exact Nat.mod_eq_of_lt (i.isLt.trans_le (h.trans (by decide)))

theorem toNat_mod (b : Bool) : b.toNat % 256 = b.toNat := by cases b <;> rfl

/-! ### Points -/

theorem pointSource?_iff {source : PointSource} :
    pointSource? r = some source ↔
      match source with
      | .field n ch => fieldAt r 1 1 = 1 ∧ fieldAt r 2 1 = n.val + 1 ∧ fieldAt r 3 1 = ch.val
      | .counter q k => fieldAt r 1 1 = 2 ∧ fieldAt r 4 1 = q.val ∧ fieldAt r 5 2 = k ∧ 1 ≤ k ∧ k ≤ 65535
      | .switch p => fieldAt r 1 1 = 3 ∧ fieldAt r 7 1 = p.val
      | .analog p => fieldAt r 1 1 = 4 ∧ fieldAt r 7 1 = p.val ∧ 8 ≤ p.val := by
  unfold pointSource?
  split
  · next h => cases source <;> simp [h, Option.bind_eq_some_iff, node?_eq_some, index?_eq_some]
  · next h => cases source <;> simp [h, Option.bind_eq_some_iff, index?_eq_some, within_eq_some]; grind
  · next h => cases source <;> simp [h, index?_eq_some]
  · next h => cases source <;> simp [h, Option.bind_eq_some_iff, index?_eq_some]
  · next h1 h2 h3 h4 =>
    cases source with
    | field => simp [show fieldAt r 1 1 ≠ 1 from h1]
    | counter => simp [show fieldAt r 1 1 ≠ 2 from h2]
    | switch => simp [show fieldAt r 1 1 ≠ 3 from h3]
    | analog => simp [show fieldAt r 1 1 ≠ 4 from h4]

/-- R33: what a parsed source leaves of the ranges of a point is the check of its combinations. -/
theorem pointBad_eq_false_iff {c : PointCfg} :
    pointBad c = false ↔
      match c.source with
      | .field .. => True
      | .counter .. => c.kind = .flow ∧ c.curve = none ∧ c.mirror = false
      | .switch _ => c.kind = .level ∧ c.curve = none ∧ c.mirror = false
      | .analog _ => True := by
  unfold pointBad
  cases c.source <;> simp [and_assoc]

theorem pointCfg?_iff {c : PointCfg} (hr : r.length = 12) : pointCfg? r = some c ↔ SpellsPoint r c := by
  obtain ⟨kind, source, curve, staleLimit, mirror⟩ := c
  simp (disch := omega) only [SpellsPoint, PointCfg.InRange, numberAt_eq, pointCfg?, Option.bind_eq_bind, Option.bind_eq_some_iff,
    within_eq_some, pointKind?_iff, pointSource?_iff, flag?_eq_some, optIndex?_eq_some (show 8 ≤ 255 by decide)]
  constructor
  · rintro ⟨kind, hkind, source, hsource, curve, hcurve, stale, ⟨hrange, hstale⟩, mirror, hmirror, h⟩
    split at h
    · cases h
    · next hbad =>
      cases h
      rw [Bool.not_eq_true, pointBad_eq_false_iff] at hbad
      cases source <;> simp_all
  · rintro ⟨⟨hlow, hhigh, hrange⟩, hkind, hsource, hcurve, hstale, hmirror⟩
    refine ⟨kind, hkind, source, ?_, curve, hcurve, staleLimit, ⟨⟨hlow, hhigh⟩, hstale⟩, mirror, hmirror, ?_⟩
    · cases source <;> simp_all
    · rw [if_neg]
      · rfl
      · rw [Bool.not_eq_true, pointBad_eq_false_iff]
        cases source <;> simp_all

theorem readsPoint : ReadsRecords .point (fun _ => 12) pointBody SpellsPoint :=
  readsKind (fun _ => rfl) (by decide) fun _ _ hr => pointCfg?_iff hr

/-- R32: the seven bytes of a source, and what its code and its own fields are. -/
theorem sourceBytes_eq (source : PointSource) :
    ∃ code node channel counter factor pin,
      sourceBytes source = be 1 code ++ be 1 node ++ be 1 channel ++ be 1 counter ++ be 2 factor ++ be 1 pin ∧
      match source with
      | .field n ch => code = 1 ∧ node = n.val + 1 ∧ channel = ch.val
      | .counter q k => code = 2 ∧ counter = q.val ∧ factor = k
      | .switch p => code = 3 ∧ pin = p.val
      | .analog p => code = 4 ∧ pin = p.val := by
  cases source <;> exact ⟨_, _, _, _, _, _, rfl, by simp [nodeNumber]⟩

theorem pointCfgBytes_length (c : PointCfg) : (pointCfgBytes c).length = 12 := by
  obtain ⟨_, _, _, _, _, _, hsource, -⟩ := sourceBytes_eq c.source
  simp [pointCfgBytes, hsource, optIndexByte_eq, flagByte_eq]

theorem spellsPoint_pointCfgBytes {c : PointCfg} (h : c.InRange) : SpellsPoint (pointCfgBytes c) c := by
  have hlen := pointCfgBytes_length c
  obtain ⟨code, node, channel, counter, factor, pin, hbytes, hsource⟩ := sourceBytes_eq c.source
  obtain ⟨hlow, hhigh, hrange⟩ := h
  refine ⟨⟨hlow, hhigh, hrange⟩, ?_⟩
  simp (disch := omega) only [numberAt_eq]
  simp only [pointCfgBytes, hbytes, optIndexByte_eq, flagByte_eq, List.append_assoc]
  refine ⟨?_, ?_, ?_, ?_, ?_⟩
  · rw [fieldAt_be_append]
    cases c.kind <;> simp [pointKindCode, Coded]
  · cases hs : c.source <;> simp only [hs] at hsource hrange <;> simp <;> omega
  · simpa using indexCoded_elim (by decide) c.curve
  · simp; omega
  · simpa using toNat_mod c.mirror

/-! ### Curves -/

theorem breakpoints_length (r : List Byte) (n off : Nat) : (breakpoints r n off).length = n := by
  induction n generalizing off with
  | zero => rfl
  | succ n ih => rw [breakpoints, List.length_cons, ih]

theorem breakpoints_getElem? (r : List Byte) (n off k : Nat) (h : k < n) :
    (breakpoints r n off)[k]? = some (signed16 (fieldAt r (off + 5 * k) 2), fieldAt r (off + 5 * k + 2) 3) := by
  induction n generalizing off k with
  | zero => omega
  | succ n ih =>
    rw [breakpoints]
    cases k with
    | zero => rfl
    | succ k =>
      rw [List.getElem?_cons_succ, ih (off + 5) k (by omega), show off + 5 + 5 * k = off + 5 * (k + 1) by ring]

theorem risingX_iff (c : Curve) : risingX c = true ↔ c.Pairwise fun a b => a.1 < b.1 := by
  have : IsTrans (Int × Nat) fun a b => a.1 < b.1 := ⟨fun _ _ _ h h' => h.trans h'⟩
  rw [← List.isChain_iff_pairwise]
  induction c using risingX.induct with
  | case1 => simp [risingX]
  | case2 => simp [risingX]
  | case3 x0 y0 x1 y1 rest ih => simp [risingX, ih]

theorem signed16_of_emod {x : Int} {n : Nat} (h : (n : Int) = x % 65536) (hlow : -32768 ≤ x) (hhigh : x ≤ 32767) : signed16 n = x := by
  unfold signed16
  split <;> omega

theorem signed16_emod {n : Nat} (h : n < 65536) :
    (n : Int) = signed16 n % 65536 ∧ -32768 ≤ signed16 n ∧ signed16 n ≤ 32767 := by
  unfold signed16
  split <;> omega

theorem numberAt_kind (r : List Byte) : numberAt r 0 1 = fieldAt r 0 1 := by
  cases r with
  | nil => rfl
  | cons b r => exact numberAt_eq _ 1 0 (by simp)

/-- R45: a record spells the curve that its count and its breakpoints are, when there are 2 to 16 of rising x. -/
theorem spellsCurve_iff {x : Curve} (hr : r.length = 1 + 5 * fieldAt r 0 1) :
    SpellsCurve r x ↔
      (2 ≤ fieldAt r 0 1 ∧ fieldAt r 0 1 ≤ 16) ∧ risingX (breakpoints r (fieldAt r 0 1) 1) = true ∧
        x = breakpoints r (fieldAt r 0 1) 1 := by
  rw [SpellsCurve, numberAt_kind]
  constructor
  · rintro ⟨⟨hlow, hhigh, hrising, hrange⟩, hlen, hfields⟩
    have hx : x = breakpoints r (fieldAt r 0 1) 1 := by
      refine List.ext_getElem? fun k => ?_
      by_cases hk : k < x.length
      · have hget := List.getElem?_eq_getElem hk
        obtain ⟨hx16, hy⟩ := hfields k _ hget
        obtain ⟨hlow, hhigh, -⟩ := hrange _ (List.getElem_mem hk)
        rw [numberAt_eq r 2 (1 + 5 * k) (by omega)] at hx16
        rw [numberAt_eq r 3 (3 + 5 * k) (by omega)] at hy
        rw [hget, breakpoints_getElem? r _ 1 k (by omega), signed16_of_emod hx16 hlow hhigh,
          show 1 + 5 * k + 2 = 3 + 5 * k by ring, hy]
      · rw [List.getElem?_eq_none (by omega), List.getElem?_eq_none (by rw [breakpoints_length]; omega)]
    rw [← hx, risingX_iff]
    exact ⟨⟨by omega, by omega⟩, hrising, rfl⟩
  · rintro ⟨⟨hlow, hhigh⟩, hrising, rfl⟩
    have hfields (k : Nat) (hk : k < fieldAt r 0 1) := breakpoints_getElem? r (fieldAt r 0 1) 1 k hk
    refine ⟨⟨by rw [breakpoints_length]; exact hlow, by rw [breakpoints_length]; exact hhigh, (risingX_iff _).mp hrising,
      fun b hb => ?_⟩, (breakpoints_length ..).symm, fun k b hb => ?_⟩
    · obtain ⟨k, hk⟩ := List.getElem?_of_mem hb
      have hkn : k < fieldAt r 0 1 := by
        have := (List.getElem?_eq_some_iff.mp hk).1
        rwa [breakpoints_length] at this
      rw [hfields k hkn] at hk
      cases hk
      have h16 := signed16_emod (fieldAt_lt r (1 + 5 * k) 2)
      have h24 := fieldAt_lt r (1 + 5 * k + 2) 3
      exact ⟨h16.2.1, h16.2.2, by omega⟩
    · have hkn : k < fieldAt r 0 1 := by
        have := (List.getElem?_eq_some_iff.mp hb).1
        rwa [breakpoints_length] at this
      rw [hfields k hkn] at hb
      cases hb
      rw [numberAt_eq r 2 (1 + 5 * k) (by omega), numberAt_eq r 3 (3 + 5 * k) (by omega), show 3 + 5 * k = 1 + 5 * k + 2 by ring]
      exact ⟨(signed16_emod (fieldAt_lt ..)).1, rfl⟩

theorem readsCurve : ReadsRecords .curve (fun r => 1 + 5 * numberAt r 0 1) curveBody SpellsCurve := by
  intro r
  refine ⟨congrArg (1 + 5 * ·) (numberAt_kind r).symm, fun hr => ?_⟩
  dsimp only at hr
  rw [numberAt_kind] at hr ⊢
  refine ⟨fun h0 => by simp [curveBody, h0], fun c h0 hs => ?_, fun h0 hs => ?_⟩
  · obtain ⟨⟨hlow, hhigh⟩, hrising, rfl⟩ := (spellsCurve_iff hr).mp hs
    simp [curveBody, h0, hlow, hhigh, hrising]
  · have hbad : ¬ ((2 ≤ fieldAt r 0 1 ∧ fieldAt r 0 1 ≤ 16) ∧ risingX (breakpoints r (fieldAt r 0 1) 1) = true) := fun h =>
      hs _ ((spellsCurve_iff hr).mpr ⟨h.1, h.2, rfl⟩)
    simp only [curveBody, h0, if_false, Bool.and_eq_true, decide_eq_true_eq, hbad]

/-- R205: the bytes that a READ returns of the breakpoints of a curve. -/
def curvePoints (c : Curve) : List Byte := c.flatMap fun b => rawBytes b.1 ++ be 3 b.2

theorem curvePoints_length (c : Curve) : (curvePoints c).length = 5 * c.length := by
  induction c with
  | nil => rfl
  | cons b c ih =>
    rw [curvePoints, List.flatMap_cons, List.length_append, List.length_append, rawBytes_eq, be_length, be_length, ← curvePoints, ih,
      List.length_cons]
    ring

theorem fieldAt_curvePoints {c : Curve} {k : Nat} {b : Int × Nat} (h : (c)[k]? = some b) :
    fieldAt (curvePoints c) (5 * k) 2 = (b.1 % 65536).toNat % 65536 ∧ fieldAt (curvePoints c) (5 * k + 2) 3 = b.2 % 16777216 := by
  induction c generalizing k with
  | nil => simp at h
  | cons a c ih =>
    have hcons : curvePoints (a :: c) = be 2 (a.1 % 65536).toNat ++ (be 3 a.2 ++ curvePoints c) := by
      rw [curvePoints, List.flatMap_cons, ← curvePoints, rawBytes_eq, List.append_assoc]
    cases k with
    | zero =>
      cases h
      rw [hcons]
      simp
    | succ k =>
      obtain ⟨hx, hy⟩ := ih (by simpa using h)
      rw [hcons, fieldAt_be_skip (by omega), fieldAt_be_skip (by omega), fieldAt_be_skip (by omega), fieldAt_be_skip (by omega),
        show 5 * (k + 1) - 2 - 3 = 5 * k by omega, show 5 * (k + 1) + 2 - 2 - 3 = 5 * k + 2 by omega]
      exact ⟨hx, hy⟩

/-- R49: the record that a READ returns of a loaded curve is read back as that curve. -/
theorem curveBody_coded {c : Curve} (h : CurveInRange c) :
    curveBody (be 1 c.length ++ curvePoints c) = .content c ∧
      (be 1 c.length ++ curvePoints c).length = recordLength .curve (be 1 c.length ++ curvePoints c) := by
  obtain ⟨hlow, hhigh, hrising, hrange⟩ := h
  have hcount : fieldAt (be 1 c.length ++ curvePoints c) 0 1 = c.length := by rw [fieldAt_be_append]; omega
  have hlen : (be 1 c.length ++ curvePoints c).length = 1 + 5 * c.length := by simp [curvePoints_length]
  have hrec : recordLength .curve (be 1 c.length ++ curvePoints c) = 1 + 5 * c.length := by
    change 1 + 5 * fieldAt _ 0 1 = _
    rw [hcount]
  refine ⟨readsCurve.content (by rw [numberAt_kind, hcount, hlen]) (by rw [numberAt_kind, hcount]; omega) ?_, hlen.trans hrec.symm⟩
  refine ⟨⟨hlow, hhigh, hrising, hrange⟩, by rw [numberAt_kind, hcount], fun k b hb => ?_⟩
  have hk := (List.getElem?_eq_some_iff.mp hb).1
  obtain ⟨hx, hy⟩ := fieldAt_curvePoints hb
  obtain ⟨-, -, h24⟩ := hrange b (List.mem_of_getElem? hb)
  rw [numberAt_eq _ 2 _ (by omega), numberAt_eq _ 3 _ (by omega), fieldAt_be_skip (by omega), fieldAt_be_skip (by omega),
    show 1 + 5 * k - 1 = 5 * k by omega, show 3 + 5 * k - 1 = 5 * k + 2 by omega, hx, hy]
  exact ⟨by omega, by omega⟩

/-! ### Scan entries -/

theorem readsScan : ReadsRecords .scan (fun _ => 4) scanBody SpellsScan := by
  refine readsContent (fun _ => rfl) (by decide) fun r c hr => ?_
  obtain ⟨p, period⟩ := c
  simp (disch := omega) only [SpellsScan, numberAt_eq, Option.bind_eq_bind, Option.bind_eq_some_iff, index?_eq_some, within_eq_some]
  constructor
  · rintro ⟨hkind, p, hp, period, ⟨⟨hlow, hhigh⟩, hperiod⟩, h⟩
    cases h
    exact ⟨hlow, hhigh, hkind, hp, hperiod⟩
  · rintro ⟨hlow, hhigh, hkind, hp, hperiod⟩
    exact ⟨hkind, p, hp, period, ⟨⟨hlow, hhigh⟩, hperiod⟩, rfl⟩

theorem spellsScan_bytes {p : PointIx} {period : Nat} (hlow : 1 ≤ period) (hhigh : period ≤ 36000) :
    SpellsScan (be 1 1 ++ be 1 p.val ++ be 2 period) (p, period) := by
  have hlen : (be 1 1 ++ be 1 p.val ++ be 2 period).length = 4 := by simp
  refine ⟨hlow, hhigh, ?_⟩
  simp (disch := omega) only [numberAt_eq]
  simp only [List.append_assoc]
  refine ⟨by simp, ?_, ?_⟩
  · simp; omega
  · simp; omega

/-! ### Streams -/

theorem optDest?_iff {kind ix : Nat} {d : Option Dest} :
    optDest? kind ix = some d ↔
      match d with
      | none => kind = 0
      | some d => DestCoded d kind ix := by
  unfold optDest?
  split
  · next h =>
    subst h
    cases d with
    | none => simp
    | some d => cases d <;> simp [DestCoded]
  · next h =>
    cases d with
    | none => simp [h]
    | some d => simp [dest?_iff]

theorem divertPos?_iff {divert : Option Dest} {x p : Nat} :
    divertPos? divert x = some p ↔ (if divert = none then p = 0 else p ≤ 1000 ∧ x = p) := by
  cases divert with
  | none => simp [divertPos?, eq_comm]
  | some d => simp [divertPos?, within_eq_some]

/-- R3: what the check of the combinations leaves of a stream's ranges. -/
theorem streamBad_eq_false_iff {c : StreamCfg} :
    streamBad c = false ↔
      (c.kind = .fixer ∨ c.kind = .bleachfix → c.primary ≠ .drain ∧ c.divert ≠ some .drain) ∧
        (c.divert ≠ none → c.divertPos ≠ c.primaryPos) ∧ c.divert ≠ some c.primary := by
  simp only [streamBad, Bool.or_eq_false_iff, Bool.and_eq_false_iff, decide_eq_false_iff_not, Option.isSome_eq_false_iff,
    Option.isNone_iff_eq_none]
  tauto

theorem streamCfg?_iff {c : StreamCfg} (hr : r.length = 21) : streamCfg? r = some c ↔ SpellsStream r c := by
  have hconc := fieldAt_lt r 3 3
  have hflow := fieldAt_lt r 6 3
  simp (disch := omega) only [SpellsStream, StreamCfg.InRange, numberAt_eq]
  simp only [streamCfg?, Option.bind_eq_bind, Option.bind_eq_some_iff, within_eq_some, streamKind?_iff, index?_eq_some, dest?_iff,
    optDest?_iff, divertPos?_iff]
  constructor
  · rintro ⟨kind, hkind, silver, hsilver, flow, hflowPoint, route, hroute, primary, hprimary, pos, ⟨⟨-, hpos⟩, hposAt⟩, divert, hdivert,
      divertPos, hdivertPos, minDivert, ⟨⟨hminLow, hminHigh⟩, hmin⟩, shift, ⟨⟨-, hshift⟩, hshiftAt⟩, h⟩
    split at h
    · cases h
    · next hbad =>
      cases h
      rw [Bool.not_eq_true, streamBad_eq_false_iff] at hbad
      obtain ⟨hdrain, hdiffer, hprim⟩ := hbad
      refine ⟨⟨Nat.le_of_lt_succ hconc, Nat.le_of_lt_succ hflow, hpos, ?_, ?_, hminLow, hminHigh, hshift, hdrain, hdiffer, hprim⟩, hkind, hsilver, hflowPoint, rfl, rfl,
        hroute, hprimary, hposAt, ?_, hmin, hshiftAt⟩
      · change divertPos ≤ 1000
        split at hdivertPos <;> omega
      · intro hnone
        simpa [show divert = none from hnone] using hdivertPos
      · cases divert with
        | none => exact hdivert
        | some d => exact ⟨hdivert, (by simpa using hdivertPos : divertPos ≤ 1000 ∧ _).2⟩
  · rintro ⟨⟨-, -, hpos, hdivertHigh, hdivertNone, hminLow, hminHigh, hshift, hdrain, hdiffer, hprim⟩, hkind, hsilver, hflowPoint, hc, hf,
      hroute, hprimary, hposAt, hdivert, hmin, hshiftAt⟩
    refine ⟨c.kind, hkind, c.silverPoint, hsilver, c.flowPoint, hflowPoint, c.route, hroute, c.primary, hprimary, c.primaryPos,
      ⟨⟨Nat.zero_le _, hpos⟩, hposAt⟩, c.divert, ?_, c.divertPos, ?_, c.minDivert, ⟨⟨hminLow, hminHigh⟩, hmin⟩, c.shift,
      ⟨⟨Nat.zero_le _, hshift⟩, hshiftAt⟩, ?_⟩
    · cases hd : c.divert with
      | none => simpa [hd] using hdivert
      | some d => simpa [hd] using (by simpa [hd] using hdivert : _ ∧ _).1
    · cases hd : c.divert with
      | none => simpa using hdivertNone hd
      | some d => simpa using ⟨hdivertHigh, (by simpa [hd] using hdivert : _ ∧ _).2⟩
    · rw [hc, hf, if_neg]
      · rfl
      · rw [Bool.not_eq_true, streamBad_eq_false_iff]
        exact ⟨hdrain, hdiffer, hprim⟩

theorem readsStream : ReadsRecords .stream (fun _ => 21) streamBody SpellsStream :=
  readsKind (fun _ => rfl) (by decide) fun _ _ hr => streamCfg?_iff hr

/-- R205: the two bytes of a destination. -/
theorem destBytes_eq (d : Dest) :
    ∃ kind ix, destBytes d = be 1 kind ++ be 1 ix ∧ kind < 256 ∧ ix < 256 ∧ DestCoded d kind ix := by
  cases d with
  | cell e => exact ⟨1, e.val, rfl, by decide, by omega, rfl, rfl⟩
  | chain k => exact ⟨2, k.val, rfl, by decide, by omega, rfl, rfl⟩
  | tank t => exact ⟨3, t.val, rfl, by decide, by omega, rfl, rfl⟩
  | drain => exact ⟨4, 0, rfl, by decide, by decide, rfl⟩
  | ret => exact ⟨5, 0, rfl, by decide, by decide, rfl⟩

theorem optDestBytes_eq (d : Option Dest) :
    ∃ kind ix, optDestBytes d = be 1 kind ++ be 1 ix ∧ kind < 256 ∧ ix < 256 ∧
      match d with
      | none => kind = 0
      | some d => DestCoded d kind ix := by
  cases d with
  | none => exact ⟨0, 0, by decide, by decide, by decide, rfl⟩
  | some d => exact destBytes_eq d

theorem streamCfgBytes_length (c : StreamCfg) : (streamCfgBytes c).length = 21 := by
  obtain ⟨_, _, hprimary, -⟩ := destBytes_eq c.primary
  obtain ⟨_, _, hdivert, -⟩ := optDestBytes_eq c.divert
  simp [streamCfgBytes, hprimary, hdivert]

theorem spellsStream_streamCfgBytes {c : StreamCfg} (h : c.InRange) : SpellsStream (streamCfgBytes c) c := by
  have hlen := streamCfgBytes_length c
  obtain ⟨kind, ix, hprimary, hk, hi, hcoded⟩ := destBytes_eq c.primary
  obtain ⟨dkind, dix, hdivert, hdk, hdi, hdcoded⟩ := optDestBytes_eq c.divert
  refine ⟨h, ?_⟩
  obtain ⟨hconc, hflow, hpos, hdivertPos, -, -, hmin, hshift, -⟩ := h
  simp (disch := omega) only [numberAt_eq]
  simp only [streamCfgBytes, hprimary, hdivert, List.append_assoc]
  refine ⟨?_, ?_, ?_, ?_, ?_, ?_, ?_, ?_, ?_, ?_, ?_⟩
  · rw [fieldAt_be_append]
    cases c.kind <;> simp [streamKindCode, Coded]
  · simp; omega
  · simp; omega
  · simp; omega
  · simp; omega
  · simp; omega
  · simpa [Nat.mod_eq_of_lt hk, Nat.mod_eq_of_lt hi] using hcoded
  · simp; omega
  · cases hd : c.divert with
    | none => simpa [hd, Nat.mod_eq_of_lt hdk] using hdcoded
    | some d =>
      rw [hd] at hdcoded
      refine ⟨by simpa [Nat.mod_eq_of_lt hdk, Nat.mod_eq_of_lt hdi] using hdcoded, ?_⟩
      simp; omega
  · simp; omega
  · simp; omega

/-! ### Actuators -/

theorem binding?_iff {b : Binding} :
    binding? r = some b ↔
      match b with
      | .field n ch => fieldAt r 0 1 = 1 ∧ fieldAt r 1 1 = n.val + 1 ∧ fieldAt r 2 1 = ch.val
      | .pin p => fieldAt r 0 1 = 2 ∧ fieldAt r 3 1 = p.val := by
  unfold binding?
  split
  · next h => cases b <;> simp [h, Option.bind_eq_some_iff, node?_eq_some, index?_eq_some]
  · next h => cases b <;> simp [h, index?_eq_some]
  · next h1 h2 =>
    cases b with
    | field => simp [show fieldAt r 0 1 ≠ 1 from h1]
    | pin => simp [show fieldAt r 0 1 ≠ 2 from h2]

theorem readsActuator : ReadsRecords .actuator (fun _ => 6) actuatorBody SpellsActuator := by
  refine readsKind (fun _ => rfl) (by decide) fun r c hr => ?_
  obtain ⟨binding, safe⟩ := c
  simp (disch := omega) only [SpellsActuator, numberAt_eq]
  simp only [Option.bind_eq_bind, Option.bind_eq_some_iff, binding?_iff, within_eq_some]
  constructor
  · rintro ⟨binding, hbinding, safe, ⟨⟨-, hhigh⟩, hsafe⟩, h⟩
    cases h
    exact ⟨hhigh, hbinding, hsafe⟩
  · rintro ⟨hhigh, hbinding, hsafe⟩
    exact ⟨binding, hbinding, safe, ⟨⟨Nat.zero_le _, hhigh⟩, hsafe⟩, rfl⟩

theorem bindingBytes_length (b : Binding) : (bindingBytes b).length = 4 := by cases b <;> simp [bindingBytes]

theorem spellsActuator_bytes {b : Binding} {v : Nat} (h : v ≤ 1000) :
    SpellsActuator (bindingBytes b ++ be 2 v) { binding := b, safe := v } := by
  have hlen : (bindingBytes b ++ be 2 v).length = 6 := by simp [bindingBytes_length]
  refine ⟨h, ?_⟩
  simp (disch := omega) only [numberAt_eq]
  cases b with
  | field n ch =>
    simp only [bindingBytes, nodeNumber, List.append_assoc]
    refine ⟨⟨by simp, ?_, ?_⟩, ?_⟩
    · simp; omega
    · simp; omega
    · simp; omega
  | pin p =>
    simp only [bindingBytes, List.append_assoc]
    refine ⟨⟨by simp, ?_⟩, ?_⟩
    · simp; omega
    · simp; omega

/-! ### Cells -/

theorem divider?_eq_some {x y : Nat} : divider? x = some y ↔ x = y ∧ y ∈ [1, 2, 4, 8, 16, 64, 256, 1024] := by
  unfold divider?
  split
  · next h =>
    have hx := List.contains_iff_mem.mp h
    constructor
    · rintro ⟨⟩; exact ⟨rfl, hx⟩
    · rintro ⟨rfl, -⟩; rfl
  · next h =>
    have hx : x ∉ [1, 2, 4, 8, 16, 64, 256, 1024] := fun hm => h (List.contains_iff_mem.mpr hm)
    exact ⟨nofun, fun ⟨hxy, hy⟩ => absurd (hxy ▸ hy) hx⟩

theorem cellBad_eq_false_iff {c : CellCfg} :
    cellBad c = false ↔ c.iMin ≤ c.iMax ∧ c.iMax ≤ c.iFs ∧ 1 ≤ c.iFs ∧ c.vHyst ≤ c.vLimit := by
  simp [cellBad, and_assoc]

theorem cellCfg?_iff {c : CellCfg} (hr : r.length = 24) : (fieldAt r 0 1 = 1 ∧ cellCfg? r = some c) ↔ SpellsCell r c := by
  have hFs := fieldAt_lt r 9 2
  have hLimit := fieldAt_lt r 11 2
  have hThreshold := fieldAt_lt r 18 6
  simp (disch := omega) only [SpellsCell, CellCfg.InRange, numberAt_eq]
  simp only [cellCfg?, Option.bind_eq_bind, Option.bind_eq_some_iff, within_eq_some, index?_eq_some, divider?_eq_some]
  constructor
  · rintro ⟨hkind, pin, hpin, _, ⟨⟨hpinLow, hpinHigh⟩, hval⟩, volt, hvolt, factor, ⟨⟨hfLow, hfHigh⟩, hfactor⟩, interval, ⟨⟨hiLow, hiHigh⟩, hinterval⟩,
      divider, ⟨hdivider, hmem⟩, h⟩
    subst hval
    split at h
    · cases h
    · next hbad =>
      cases h
      rw [Bool.not_eq_true, cellBad_eq_false_iff] at hbad
      obtain ⟨hmin, hmax, hfs, hhyst⟩ := hbad
      exact ⟨⟨hpinLow, hpinHigh, hfLow, hfHigh, hmin, hmax, hfs, Nat.le_of_lt_succ hFs, hhyst, Nat.le_of_lt_succ hLimit, hiLow, hiHigh,
        hmem, Nat.le_of_lt_succ hThreshold⟩, hkind, hpin, hvolt, hfactor, rfl, rfl, rfl, rfl, rfl, hinterval, hdivider, rfl⟩
  · rintro ⟨⟨hpinLow, hpinHigh, hfLow, hfHigh, hmin, hmax, hfs, -, hhyst, -, hiLow, hiHigh, hmem, -⟩, hkind, hpin, hvolt, hfactor, h1, h2, h3,
      h4, h5, hinterval, hdivider, h6⟩
    refine ⟨hkind, c.pwmPin, hpin, c.pwmPin.val, ⟨⟨hpinLow, hpinHigh⟩, rfl⟩, c.voltPoint, hvolt, c.factor, ⟨⟨hfLow, hfHigh⟩, hfactor⟩,
      c.interval, ⟨⟨hiLow, hiHigh⟩, hinterval⟩, c.divider, ⟨hdivider, hmem⟩, ?_⟩
    rw [h1, h2, h3, h4, h5, h6, if_neg]
    · rfl
    · rw [Bool.not_eq_true, cellBad_eq_false_iff]
      exact ⟨hmin, hmax, hfs, hhyst⟩

theorem readsCell : ReadsRecords .cell (fun _ => 24) cellBody SpellsCell :=
  readsContent (fun _ => rfl) (by decide) fun _ _ hr => cellCfg?_iff hr

theorem cellCfgBytes_length (c : CellCfg) : (be 1 1 ++ cellCfgBytes c).length = 24 := by simp [cellCfgBytes]

theorem spellsCell_bytes {c : CellCfg} (h : c.InRange) : SpellsCell (be 1 1 ++ cellCfgBytes c) c := by
  have hlen := cellCfgBytes_length c
  refine ⟨h, ?_⟩
  obtain ⟨-, -, -, hfactor, hmin, hmax, -, hfs, hhyst, hlimit, -, hinterval, hdivider, hthreshold⟩ := h
  have hdiv : c.divider ≤ 1024 := by
    simp only [List.mem_cons, List.not_mem_nil, or_false] at hdivider
    omega
  rw [Config.max48] at hthreshold
  simp (disch := omega) only [numberAt_eq]
  simp only [cellCfgBytes, List.append_assoc]
  refine ⟨by simp, ?_, ?_, ?_, ?_, ?_, ?_, ?_, ?_, ?_, ?_, ?_⟩ <;> (simp; omega)

/-- Settles O13: of each table the parser answers what its record spells, and a READ's bytes spell the fields that they code. -/
theorem plantRecordsAreReadAsCoded : Obligations.PlantRecordsAreReadAsCoded := by
  refine ⟨fun c h => ⟨?_, pointCfgBytes_length c⟩, fun c h => curveBody_coded h, fun p period hlow hhigh => ?_,
    fun c h => ⟨?_, streamCfgBytes_length c⟩, fun b v h => ⟨?_, ?_⟩, fun c h => ⟨?_, cellCfgBytes_length c⟩,
    readsPoint, readsCurve, readsScan, readsStream, readsActuator, readsCell⟩
  · have hspells := spellsPoint_pointCfgBytes h
    exact readsPoint.content (pointCfgBytes_length c) hspells.2.1.ne_zero hspells
  · have hspells := spellsScan_bytes (p := p) hlow hhigh
    exact readsScan.content (by simp) (by rw [hspells.2.2.1]; decide) hspells
  · have hspells := spellsStream_streamCfgBytes h
    exact readsStream.content (streamCfgBytes_length c) hspells.2.1.ne_zero hspells
  · have hspells := spellsActuator_bytes (b := b) h
    refine readsActuator.content (by simp [bindingBytes_length]) ?_ hspells
    obtain ⟨-, hbinding, -⟩ := hspells
    cases b with
    | field => rw [hbinding.1]; decide
    | pin => rw [hbinding.1]; decide
  · simp [bindingBytes_length]
  · have hspells := spellsCell_bytes h
    exact readsCell.content (cellCfgBytes_length c) (by rw [hspells.2.1]; decide) hspells

end Sys2Proof.Machine
end


section
/-! LOAD records of chains, tanks, the permit, the pin map, interlocks, classes and the line: O14. -/

namespace Sys2Proof.Machine

variable {r : List Byte}

/-! ### Chains -/

theorem chainCfg?_iff {c : ChainCfg} (hr : r.length = 13) : (fieldAt r 0 1 = 1 ∧ chainCfg? r = some c) ↔ SpellsChain r c := by
  have hlimit := fieldAt_lt r 7 3
  simp (disch := omega) only [SpellsChain, ChainCfg.InRange, numberAt_eq]
  simp only [chainCfg?, Option.bind_eq_bind, Option.bind_eq_some_iff, within_eq_some, index?_eq_some,
    optIndex?_eq_some (show 32 ≤ 255 by decide)]
  constructor
  · rintro ⟨hkind, order, horder, a, ⟨⟨-, haHigh⟩, ha⟩, b, ⟨⟨-, hbHigh⟩, hb⟩, tail, htail, count, ⟨⟨hcLow, hcHigh⟩, hcount⟩, swap,
      ⟨⟨hsLow, hsHigh⟩, hswap⟩, h⟩
    split at h
    · cases h
    · next hne =>
      cases h
      exact ⟨⟨haHigh, hbHigh, hne, Nat.le_of_lt_succ hlimit, hcLow, hcHigh, hsLow, hsHigh⟩, hkind, horder, ha, hb, htail, rfl, hcount, hswap⟩
  · rintro ⟨⟨haHigh, hbHigh, hne, -, hcLow, hcHigh, hsLow, hsHigh⟩, hkind, horder, ha, hb, htail, hlim, hcount, hswap⟩
    refine ⟨hkind, c.order, horder, c.aFirst, ⟨⟨Nat.zero_le _, haHigh⟩, ha⟩, c.bFirst, ⟨⟨Nat.zero_le _, hbHigh⟩, hb⟩, c.tail, htail,
      c.count, ⟨⟨hcLow, hcHigh⟩, hcount⟩, c.swap, ⟨⟨hsLow, hsHigh⟩, hswap⟩, ?_⟩
    rw [if_neg hne, hlim]
    rfl

theorem readsChain : ReadsRecords .chain (fun _ => 13) chainBody SpellsChain :=
  readsContent (fun _ => rfl) (by decide) fun _ _ hr => chainCfg?_iff hr

theorem chainCfgBytes_length (c : ChainCfg) : (be 1 1 ++ chainCfgBytes c).length = 13 := by simp [chainCfgBytes, optIndexByte_eq]

theorem spellsChain_bytes {c : ChainCfg} (h : c.InRange) : SpellsChain (be 1 1 ++ chainCfgBytes c) c := by
  have hlen := chainCfgBytes_length c
  refine ⟨h, ?_⟩
  obtain ⟨ha, hb, -, hlimit, -, hcount, -, hswap⟩ := h
  simp (disch := omega) only [numberAt_eq]
  simp only [chainCfgBytes, optIndexByte_eq, List.append_assoc]
  refine ⟨by simp, ?_, ?_, ?_, by simpa using indexCoded_elim (by decide) c.tail, ?_, ?_, ?_⟩ <;> (simp; omega)

/-! ### Tanks -/

theorem valve?_iff {off : Nat} {v : Valve} :
    valve? r off = some v ↔
      v.InRange ∧ fieldAt r off 1 = v.act.val ∧ fieldAt r (off + 1) 2 = v.opened ∧ fieldAt r (off + 3) 2 = v.closed := by
  simp only [valve?, Option.bind_eq_bind, Option.bind_eq_some_iff, within_eq_some, index?_eq_some, Valve.InRange]
  constructor
  · rintro ⟨act, hact, opened, ⟨⟨-, hoHigh⟩, hopened⟩, closed, ⟨⟨-, hcHigh⟩, hclosed⟩, h⟩
    split at h
    · cases h
    · next hne =>
      cases h
      exact ⟨⟨hoHigh, hcHigh, hne⟩, hact, hopened, hclosed⟩
  · rintro ⟨⟨hoHigh, hcHigh, hne⟩, hact, hopened, hclosed⟩
    refine ⟨v.act, hact, v.opened, ⟨⟨Nat.zero_le _, hoHigh⟩, hopened⟩, v.closed, ⟨⟨Nat.zero_le _, hcHigh⟩, hclosed⟩, ?_⟩
    rw [if_neg hne]
    rfl

theorem reworkDest?_iff {kind ix : Nat} {d : ReworkDest} :
    reworkDest? kind ix = some d ↔
      match d with
      | .chain k => kind = 2 ∧ ix = k.val
      | .ret => kind = 5 := by
  unfold reworkDest?
  split
  · cases d <;> simp [index?_eq_some]
  · cases d <;> simp
  · next h2 h5 =>
    cases d with
    | chain => simp [show kind ≠ 2 from h2]
    | ret => simp [show kind ≠ 5 from h5]

theorem tankCfg?_iff {c : TankCfg} (hr : r.length = 35) : (fieldAt r 0 1 = 1 ∧ tankCfg? r = some c) ↔ SpellsTank r c := by
  simp (disch := omega) only [SpellsTank, TankCfg.InRange, SpellsValve, numberAt_eq]
  constructor
  · rintro ⟨hkind, h⟩
    unfold tankCfg? at h
    obtain ⟨capacity, hcap, h⟩ := Option.bind_eq_some_iff.mp h
    obtain ⟨level, hlevel, h⟩ := Option.bind_eq_some_iff.mp h
    obtain ⟨silver, hsilver, h⟩ := Option.bind_eq_some_iff.mp h
    obtain ⟨ph, hph, h⟩ := Option.bind_eq_some_iff.mp h
    obtain ⟨outlet, houtlet, h⟩ := Option.bind_eq_some_iff.mp h
    obtain ⟨high, hhigh, h⟩ := Option.bind_eq_some_iff.mp h
    obtain ⟨low, hlow, h⟩ := Option.bind_eq_some_iff.mp h
    obtain ⟨inlet, hinlet, h⟩ := Option.bind_eq_some_iff.mp h
    obtain ⟨drain, hdrain, h⟩ := Option.bind_eq_some_iff.mp h
    obtain ⟨rework, hrework, h⟩ := Option.bind_eq_some_iff.mp h
    obtain ⟨dest, hdest, h⟩ := Option.bind_eq_some_iff.mp h
    obtain ⟨dwell, hdwell, h⟩ := Option.bind_eq_some_iff.mp h
    obtain ⟨samples, hsamples, h⟩ := Option.bind_eq_some_iff.mp h
    obtain ⟨timeout, htimeout, h⟩ := Option.bind_eq_some_iff.mp h
    rw [index?_eq_some] at hlevel hsilver hph houtlet
    rw [within_eq_some] at hcap hhigh hlow hdwell hsamples htimeout
    rw [valve?_iff] at hinlet hdrain hrework
    rw [reworkDest?_iff] at hdest
    obtain ⟨⟨hcapLow, hcapHigh⟩, hcap⟩ := hcap
    obtain ⟨⟨-, hhighHigh⟩, hhigh⟩ := hhigh
    obtain ⟨-, hlow⟩ := hlow
    obtain ⟨hiRange, hinlet⟩ := hinlet
    obtain ⟨hdRange, hdrain⟩ := hdrain
    obtain ⟨hrRange, hrework⟩ := hrework
    obtain ⟨⟨-, hdwHigh⟩, hdwell⟩ := hdwell
    obtain ⟨⟨hsLow, hsHigh⟩, hsamples⟩ := hsamples
    obtain ⟨⟨htLow, htHigh⟩, htimeout⟩ := htimeout
    split at h
    · next hlt =>
      cases h
      exact ⟨⟨hcapLow, hcapHigh, hhighHigh, hlt, hiRange, hdRange, hrRange, hdwHigh, hsLow, hsHigh, htLow, htHigh⟩, hkind, hcap, hlevel,
        hsilver, hph, houtlet, hhigh, hlow, hinlet, hdrain, hrework, hdest, hdwell, hsamples, htimeout⟩
    · cases h
  · rintro ⟨⟨hcapLow, hcapHigh, hhighHigh, hlt, hiRange, hdRange, hrRange, hdwHigh, hsLow, hsHigh, htLow, htHigh⟩, hkind, hcap, hlevel,
        hsilver, hph, houtlet, hhigh, hlow, hinlet, hdrain, hrework, hdest, hdwell, hsamples, htimeout⟩
    refine ⟨hkind, ?_⟩
    simp only [tankCfg?, Option.bind_eq_bind, within_eq_some.mpr ⟨⟨hcapLow, hcapHigh⟩, hcap⟩, index?_eq_some.mpr hlevel,
      index?_eq_some.mpr hsilver, index?_eq_some.mpr hph, index?_eq_some.mpr houtlet,
      within_eq_some.mpr ⟨⟨(Nat.zero_lt_of_lt hlt : 1 ≤ c.high), hhighHigh⟩, hhigh⟩,
      within_eq_some.mpr ⟨⟨Nat.zero_le _, (by omega : c.low ≤ 999)⟩, hlow⟩, valve?_iff.mpr ⟨hiRange, hinlet⟩,
      valve?_iff.mpr ⟨hdRange, hdrain⟩, valve?_iff.mpr ⟨hrRange, hrework⟩, reworkDest?_iff.mpr hdest,
      within_eq_some.mpr ⟨⟨Nat.zero_le _, hdwHigh⟩, hdwell⟩, within_eq_some.mpr ⟨⟨hsLow, hsHigh⟩, hsamples⟩,
      within_eq_some.mpr ⟨⟨htLow, htHigh⟩, htimeout⟩, Option.bind_some, if_pos hlt]
    rfl

theorem readsTank : ReadsRecords .tank (fun _ => 35) tankBody SpellsTank :=
  readsContent (fun _ => rfl) (by decide) fun _ _ hr => tankCfg?_iff hr

theorem reworkDestBytes_eq (d : ReworkDest) :
    ∃ kind ix, reworkDestBytes d = be 1 kind ++ be 1 ix ∧
      match d with
      | .chain k => kind % 256 = 2 ∧ ix % 256 = k.val
      | .ret => kind % 256 = 5 := by
  cases d with
  | chain k => exact ⟨2, k.val, rfl, rfl, by omega⟩
  | ret => exact ⟨5, 0, rfl, rfl⟩

theorem tankCfgBytes_length (c : TankCfg) : (be 1 1 ++ tankCfgBytes c).length = 35 := by
  obtain ⟨_, _, hdest, -⟩ := reworkDestBytes_eq c.reworkDest
  simp [tankCfgBytes, valveBytes, hdest]

theorem spellsTank_bytes {c : TankCfg} (h : c.InRange) : SpellsTank (be 1 1 ++ tankCfgBytes c) c := by
  have hlen := tankCfgBytes_length c
  refine ⟨h, ?_⟩
  obtain ⟨kind, ix, hdest, hcoded⟩ := reworkDestBytes_eq c.reworkDest
  obtain ⟨-, hcap, hhigh, hlow, ⟨hio, hic, -⟩, ⟨hdo, hdc, -⟩, ⟨hro, hrc, -⟩, hdwell, -, hsamples, -, htimeout⟩ := h
  simp (disch := omega) only [SpellsValve, numberAt_eq]
  simp only [tankCfgBytes, valveBytes, hdest, List.append_assoc]
  refine ⟨by simp, ?_, ?_, ?_, ?_, ?_, ?_, ?_, ⟨?_, ?_, ?_⟩, ⟨?_, ?_, ?_⟩, ⟨?_, ?_, ?_⟩, ?dest, ?_, ?_, ?_⟩
  case dest => cases hd : c.reworkDest <;> simpa [hd] using hcoded
  all_goals simp; omega

/-! ### The permit -/

theorem permitCfg?_iff {c : PermitCfg} (hr : r.length = 27) : (fieldAt r 0 1 = 1 ∧ permitCfg? r = some c) ↔ SpellsPermit r c := by
  have hconc := fieldAt_lt r 7 3
  have hstart := fieldAt_lt r 21 6
  simp (disch := omega) only [SpellsPermit, PermitCfg.InRange, numberAt_eq]
  simp only [permitCfg?, Option.bind_eq_bind, Option.bind_eq_some_iff, within_eq_some, index?_eq_some]
  constructor
  · rintro ⟨hkind, cap, ⟨⟨hcLow, hcHigh⟩, hcap⟩, low, ⟨⟨-, -⟩, hlow⟩, high, ⟨⟨-, hhHigh⟩, hhigh⟩, day, ⟨⟨-, hdHigh⟩, hday⟩, silver, hsilver, ph,
      hph, permille, ⟨⟨-, hpHigh⟩, hpermille⟩, h⟩
    split at h
    · next hle =>
      cases h
      exact ⟨⟨hcLow, hcHigh, Nat.le_of_lt_succ hconc, hle, hhHigh, hdHigh, hpHigh, Nat.le_of_lt_succ hstart⟩, hkind, hcap, rfl, hlow, hhigh,
        hday, hsilver, hph, hpermille, rfl⟩
    · cases h
  · rintro ⟨⟨hcLow, hcHigh, -, hle, hhHigh, hdHigh, hpHigh, -⟩, hkind, hcap, h1, hlow, hhigh, hday, hsilver, hph, hpermille, h2⟩
    refine ⟨hkind, c.cap, ⟨⟨hcLow, hcHigh⟩, hcap⟩, c.phLow, ⟨⟨Nat.zero_le _, hle.trans hhHigh⟩, hlow⟩, c.phHigh,
      ⟨⟨Nat.zero_le _, hhHigh⟩, hhigh⟩, c.dayStart, ⟨⟨Nat.zero_le _, hdHigh⟩, hday⟩, c.silverPoint, hsilver, c.phPoint, hph, c.lowPermille,
      ⟨⟨Nat.zero_le _, hpHigh⟩, hpermille⟩, ?_⟩
    rw [if_pos hle, h1, h2]
    rfl

theorem readsPermit : ReadsRecords .permit (fun _ => 27) permitBody SpellsPermit :=
  readsContent (fun _ => rfl) (by decide) fun _ _ hr => permitCfg?_iff hr

theorem permitCfgBytes_length (c : PermitCfg) : (be 1 1 ++ permitCfgBytes c).length = 27 := by simp [permitCfgBytes]

theorem spellsPermit_bytes {c : PermitCfg} (h : c.InRange) : SpellsPermit (be 1 1 ++ permitCfgBytes c) c := by
  have hlen := permitCfgBytes_length c
  refine ⟨h, ?_⟩
  obtain ⟨-, hcap, hconc, hle, hhigh, hday, hpermille, hstart⟩ := h
  rw [Config.max48] at hcap hstart
  simp (disch := omega) only [numberAt_eq]
  simp only [permitCfgBytes, List.append_assoc]
  refine ⟨by simp, ?_, ?_, ?_, ?_, ?_, ?_, ?_, ?_, ?_⟩ <;> (simp; omega)

/-! ### The pin map -/

theorem pinFn?_iff {f : PinFn} (hr : r.length = 7) : pinFn? r = some f ↔ SpellsPin r f := by
  have hkind : numberAt r 0 1 = fieldAt r 0 1 := numberAt_eq _ _ _ (by omega)
  unfold pinFn?
  split
  · next h => cases f <;> simp [SpellsPin, hkind, h]
  · next h =>
    cases f with
    | input inv d =>
      simp (disch := omega) only [SpellsPin, numberAt_eq, h, Option.map_eq_some_iff, polarity?_iff, PinFn.input.injEq]
      exact ⟨fun ⟨_, hinv, hsame, hd⟩ => ⟨trivial, hsame ▸ hinv, hd⟩, fun ⟨_, hinv, hd⟩ => ⟨inv, hinv, rfl, hd⟩⟩
    | _ => simp [SpellsPin, hkind, h]
  · next h => cases f <;> simp (disch := omega) [SpellsPin, numberAt_eq, h, polarity?_iff]
  · next h =>
    cases f with
    | counter q e c =>
      simp (disch := omega) only [SpellsPin, numberAt_eq, h, Option.bind_eq_bind, Option.bind_eq_some_iff, index?_eq_some, edge?_iff,
        flag?_eq_some]
      constructor
      · rintro ⟨q, hq, e, he, c, hc, hsame⟩
        cases hsame
        exact ⟨trivial, hq, he, hc⟩
      · rintro ⟨-, hq, he, hc⟩
        exact ⟨q, hq, e, he, c, hc, rfl⟩
    | _ => simp [SpellsPin, hkind, h, Option.bind_eq_some_iff]
  · next h => cases f <;> simp (disch := omega) [SpellsPin, numberAt_eq, h, Option.bind_eq_some_iff, index?_eq_some, polarity?_iff]
  · next h => cases f <;> simp [SpellsPin, hkind, h]
  · next h1 h2 h3 h4 h5 h6 =>
    cases f with
    | unused => simp [SpellsPin, hkind, show fieldAt r 0 1 ≠ 1 from h1]
    | input => simp [SpellsPin, hkind, show fieldAt r 0 1 ≠ 2 from h2]
    | output => simp [SpellsPin, hkind, show fieldAt r 0 1 ≠ 3 from h3]
    | counter => simp [SpellsPin, hkind, show fieldAt r 0 1 ≠ 4 from h4]
    | cellPwm => simp [SpellsPin, hkind, show fieldAt r 0 1 ≠ 5 from h5]
    | analog => simp [SpellsPin, hkind, show fieldAt r 0 1 ≠ 6 from h6]

theorem readsPin : ReadsRecords .pinmap (fun _ => 7) pinBody SpellsPin :=
  readsKind (fun _ => rfl) (by decide) fun _ _ hr => pinFn?_iff hr

theorem pinFnBytes_length (f : PinFn) : (pinFnBytes f).length = 7 := by cases f <;> simp [pinFnBytes, polarityBytes, flagByte_eq]

theorem numberAt_ne_zero_of_spellsPin {f : PinFn} (h : SpellsPin r f) : numberAt r 0 1 ≠ 0 := by
  cases f with
  | unused => rw [show numberAt r 0 1 = 1 from h]; decide
  | input => rw [h.1]; decide
  | output => rw [h.1]; decide
  | counter => rw [h.1]; decide
  | cellPwm => rw [h.1]; decide
  | analog => rw [show numberAt r 0 1 = 6 from h]; decide

theorem spellsPin_bytes {f : PinFn} (h : f.InRange) : SpellsPin (pinFnBytes f) f := by
  cases f with
  | unused => simp [SpellsPin, pinFnBytes, numberAt]
  | input inv d =>
    have hd : d < 256 := Nat.lt_succ_of_le h
    refine ⟨by simp [pinFnBytes, numberAt], ?_, ?_⟩
    · cases inv <;> simp [pinFnBytes, polarityBytes, numberAt, be_one, PolarityCoded, Coded]
    · simp [pinFnBytes, polarityBytes, numberAt, be_one, Nat.mod_eq_of_lt hd]
  | output inv =>
    refine ⟨by simp [pinFnBytes, numberAt], ?_⟩
    cases inv <;> simp [pinFnBytes, polarityBytes, numberAt, be_one, PolarityCoded, Coded]
  | counter q e c =>
    refine ⟨by simp [pinFnBytes, numberAt], ?_, ?_, ?_⟩
    · simp [pinFnBytes, numberAt, be_one]; omega
    · cases e <;> simp [pinFnBytes, numberAt, be_one, edgeCode, Coded]
    · cases c <;> simp [pinFnBytes, numberAt, be_one, flagByte_eq]
  | cellPwm e inv =>
    refine ⟨by simp [pinFnBytes, numberAt], ?_, ?_⟩
    · simp [pinFnBytes, numberAt, be_one]; omega
    · cases inv <;> simp [pinFnBytes, polarityBytes, numberAt, be_one, PolarityCoded, Coded]
  | analog => simp [SpellsPin, pinFnBytes, numberAt]

/-! ### Interlocks and classes -/

theorem readsInterlock : ReadsRecords .interlock (fun _ => 8) interlockBody SpellsInterlock := by
  refine readsContent (fun _ => rfl) (by decide) fun r e hr => ?_
  simp (disch := omega) only [SpellsInterlock, numberAt_eq]
  simp only [Option.bind_eq_bind, Option.bind_eq_some_iff, node?_eq_some, index?_eq_some, cond?_iff, within_eq_some]
  constructor
  · rintro ⟨hkind, node, hnode, channel, hchannel, cond, hcond, max, ⟨⟨-, hhigh⟩, hmax⟩, h⟩
    cases h
    exact ⟨hhigh, hkind, hnode, hchannel, hcond, hmax⟩
  · rintro ⟨hhigh, hkind, hnode, hchannel, hcond, hmax⟩
    exact ⟨hkind, e.node, hnode, e.channel, hchannel, e.cond, hcond, e.max, ⟨⟨Nat.zero_le _, hhigh⟩, hmax⟩, rfl⟩

/-- R88: the bytes of a condition are its code and its argument. -/
theorem condBytes_eq {c : Cond} (h : c.InRange) :
    ∃ kind argument, condBytes c = be 1 kind ++ be 2 argument ∧ kind < 256 ∧ argument < 65536 ∧ CondCoded c kind argument := by
  cases c with
  | always => exact ⟨1, 0, rfl, by decide, by decide, rfl⟩
  | tankNotReleasing t => exact ⟨2, t.val, rfl, by decide, by omega, rfl, rfl⟩
  | streamActive i => exact ⟨3, i.val, rfl, by decide, by omega, rfl, rfl⟩
  | cellRunning e => exact ⟨4, e.val, rfl, by decide, by omega, rfl, rfl⟩
  | budgetAbove p =>
    have hp : p ≤ 1000 := h
    exact ⟨5, p, rfl, by decide, by omega, rfl, rfl, hp⟩

theorem condBytes_length (c : Cond) : (condBytes c).length = 3 := by cases c <;> simp [condBytes]

theorem interlockBytes_length (e : Interlock) : (be 1 1 ++ interlockBytes e).length = 8 := by simp [interlockBytes, condBytes_length]

theorem spellsInterlock_bytes {e : Interlock} (h : e.cond.InRange) (hmax : e.max ≤ 1000) :
    SpellsInterlock (be 1 1 ++ interlockBytes e) e := by
  have hlen := interlockBytes_length e
  obtain ⟨kind, argument, hbytes, hk, ha, hcoded⟩ := condBytes_eq h
  refine ⟨hmax, ?_⟩
  simp (disch := omega) only [numberAt_eq]
  simp only [interlockBytes, nodeNumber, hbytes, List.append_assoc]
  refine ⟨by simp, ?_, ?_, by simpa [Nat.mod_eq_of_lt hk, Nat.mod_eq_of_lt ha] using hcoded, ?_⟩
  · simp; omega
  · simp; omega
  · simp; omega

theorem readsClass : ReadsRecords .classmap (fun _ => 2) classBody SpellsClass := by
  refine readsContent (fun _ => rfl) (by decide) fun r c hr => ?_
  simp (disch := omega) only [SpellsClass, numberAt_eq, index?_eq_some]

theorem spellsClass_bytes (c : Sys2Proof.Class) : SpellsClass (be 1 1 ++ be 1 c.val) c := by
  refine ⟨by simp [be_one, numberAt], ?_⟩
  simp [be_one, numberAt]; omega

/-! ### The line -/

theorem bitRate?_eq_some {x y : Nat} : bitRate? x = some y ↔ x = y ∧ y ∈ [19200, 57600, 115200] := by
  unfold bitRate?
  split
  · next h =>
    have hx := List.contains_iff_mem.mp h
    exact ⟨fun hxy => ⟨Option.some.inj hxy, Option.some.inj hxy ▸ hx⟩, fun hxy => congrArg some hxy.1⟩
  · next h =>
    exact ⟨nofun, fun ⟨hxy, hy⟩ => absurd (List.contains_iff_mem.mpr (hxy ▸ hy)) h⟩

theorem silence?_eq_some {x y : Nat} : silence? x = some y ↔ (y = 0 ∨ (5 ≤ y ∧ y ≤ 600)) ∧ x = y := by
  unfold silence?
  split
  · simp; omega
  · rw [within_eq_some]; omega

theorem readsLine : ReadsRecords .line (fun _ => 8) lineBody SpellsLine := by
  refine readsContent (fun _ => rfl) (by decide) fun r c hr => ?_
  simp (disch := omega) only [SpellsLine, LineParams.InRange, numberAt_eq]
  simp only [Option.bind_eq_bind, Option.bind_eq_some_iff, bitRate?_eq_some, silence?_eq_some, within_eq_some]
  constructor
  · rintro ⟨hkind, bitRate, ⟨hrate, hmem⟩, window, ⟨⟨hwLow, hwHigh⟩, hwindow⟩, holdoff, ⟨⟨hhLow, hhHigh⟩, hholdoff⟩, silence,
      ⟨hrange, hsilence⟩, h⟩
    cases h
    exact ⟨⟨hmem, hwLow, hwHigh, hhLow, hhHigh, hrange⟩, hkind, hrate, hwindow, hholdoff, hsilence⟩
  · rintro ⟨⟨hmem, hwLow, hwHigh, hhLow, hhHigh, hrange⟩, hkind, hrate, hwindow, hholdoff, hsilence⟩
    exact ⟨hkind, c.bitRate, ⟨hrate, hmem⟩, c.window, ⟨⟨hwLow, hwHigh⟩, hwindow⟩, c.holdoff, ⟨⟨hhLow, hhHigh⟩, hholdoff⟩, c.silence,
      ⟨hrange, hsilence⟩, rfl⟩

theorem lineBytes_length (c : LineParams) : (be 1 1 ++ lineBytes c).length = 8 := by simp [lineBytes]

theorem spellsLine_bytes {c : LineParams} (h : c.InRange) : SpellsLine (be 1 1 ++ lineBytes c) c := by
  have hlen := lineBytes_length c
  refine ⟨h, ?_⟩
  obtain ⟨hmem, -, hwindow, -, hholdoff, hsilence⟩ := h
  have hrate : c.bitRate ≤ 115200 := by
    simp only [List.mem_cons, List.not_mem_nil, or_false] at hmem
    omega
  simp (disch := omega) only [numberAt_eq]
  simp only [lineBytes, List.append_assoc]
  refine ⟨by simp, ?_, ?_, ?_, ?_⟩ <;> (simp; omega)

/-- Settles O14: of each table the parser answers what its record spells, and a READ's bytes spell the fields that they code. -/
theorem controlRecordsAreReadAsCoded : Obligations.ControlRecordsAreReadAsCoded := by
  refine ⟨fun c h => ⟨?_, chainCfgBytes_length c⟩, fun c h => ⟨?_, tankCfgBytes_length c⟩, fun c h => ⟨?_, permitCfgBytes_length c⟩,
    fun f h => ⟨?_, pinFnBytes_length f⟩, fun e h hmax => ⟨?_, interlockBytes_length e⟩, fun c => ?_,
    fun c h => ⟨?_, lineBytes_length c⟩, readsChain, readsTank, readsPermit, readsPin, readsInterlock, readsClass, readsLine⟩
  · have hspells := spellsChain_bytes h
    exact readsChain.content (chainCfgBytes_length c) (by rw [hspells.2.1]; decide) hspells
  · have hspells := spellsTank_bytes h
    exact readsTank.content (tankCfgBytes_length c) (by rw [hspells.2.1]; decide) hspells
  · have hspells := spellsPermit_bytes h
    exact readsPermit.content (permitCfgBytes_length c) (by rw [hspells.2.1]; decide) hspells
  · have hspells := spellsPin_bytes h
    exact readsPin.content (pinFnBytes_length f) (numberAt_ne_zero_of_spellsPin hspells) hspells
  · have hspells := spellsInterlock_bytes h hmax
    exact readsInterlock.content (interlockBytes_length e) (by rw [hspells.2.1]; decide) hspells
  · have hspells := spellsClass_bytes c
    exact readsClass.content (by simp) (by rw [hspells.1]; decide) hspells
  · have hspells := spellsLine_bytes h
    exact readsLine.content (lineBytes_length c) (by rw [hspells.2.1]; decide) hspells

end Sys2Proof.Machine
end


section
/-! The LOADs of points, the small tables, streams, actuators, cells, chains, tanks, the permit and the line: O15 to O20. Each block's checks
are said once, for every state, and a claim reads them in the state in which the request has left the queue. -/

namespace Sys2Proof.Machine

variable {s : State} {rest : List Request} {tag : Byte} {r record : List Byte}

/-! ### Points -/

section Points

variable {p : PointIx} {c : PointCfg}

theorem loadPointRecord_busy (h : PointUsed s p) : loadPointRecord p r s = (.busy, s) := if_pos (pointInService_iff.mpr h)

theorem loadPointRecord_free (h : ¬ PointUsed s p) :
    loadPointRecord p r s =
      match pointBody r with
      | .bad => (.badValue, s)
      | .unload => (.ok, s.setPoint p {})
      | .content c => (.ok, installPoint p c s) :=
  if_neg (h ∘ pointInService_iff.mp)

/-- R34: a point that is on no LOST node is fresh. -/
theorem installPoint_fresh (h : ∀ n ch, c.source = .field n ch → (s.node n).state ≠ .lost) :
    installPoint p c s = s.setPoint p { cfg := some c } := by
  unfold installPoint
  cases hc : c.source with
  | field n ch => exact if_neg (h n ch hc)
  | counter => rfl
  | switch => rfl
  | analog => rfl

/-- R40: a FIELD point on a LOST node is FAILED at once. -/
theorem installPoint_lost {n : NodeIx} {ch : Channel} (hc : c.source = .field n ch) (h : (s.node n).state = .lost) :
    installPoint p c s =
      { s.setPoint p { cfg := some c, quality := .failed } with
        reports := s.reports.raise (.alert .pointFailed (.point p) [2] s.clock) } := by
  have hnode : ((s.setPoint p { cfg := some c }).node n).state = .lost := h
  simp only [installPoint, hc]
  rw [if_pos hnode, failPoint, if_neg (by simp), raiseAlert_eq, State.setPoint_point_self, State.setPoint_setPoint]
  rfl

end Points

/-- Settles O15, by the block's checks in their order and the state of the point's node. -/
theorem pointLoadsMakeAFreshPoint : Obligations.PointLoadsMakeAFreshPoint := by
  intro s p record tag rest h
  refine ⟨fun hused => loads_refuse (by decide) h rfl (loadPointRecord_busy (s := withRequests s rest) hused), fun hfree => ?_⟩
  have hload := loadPointRecord_free (s := withRequests s rest) (r := record) hfree
  refine ⟨fun hb => loads_refuse (by decide) h rfl (by rw [hload, hb]), fun hb => loads_accept (by decide) h rfl (by rw [hload, hb]; rfl),
    fun c hb => ⟨fun hnode => ?_, fun n ch hsource hlost => ?_⟩⟩
  · refine loads_accept (by decide) h rfl ?_
    rw [hload, hb]
    exact congrArg _ (installPoint_fresh (s := withRequests s rest) hnode)
  · refine loads_accept (by decide) h rfl ?_
    rw [hload, hb]
    exact congrArg _ (installPoint_lost (s := withRequests s rest) hsource hlost)

/-! ### Curves, scan entries, interlocks and classes -/

theorem loadCurveRecord_busy {i : CurveIx} (h : CurveUsed s i) : loadCurveRecord i r s = (.busy, s) :=
  if_pos (curveInService_iff.mpr h)

theorem loadCurveRecord_free {i : CurveIx} (h : ¬ CurveUsed s i) :
    loadCurveRecord i r s =
      match curveBody r with
      | .bad => (.badValue, s)
      | .unload => (.ok, s.setCurve i [])
      | .content c => (.ok, s.setCurve i c) :=
  if_neg (h ∘ curveInService_iff.mp)

/-- R62, R64: what writing a scan entry comes to. -/
theorem writeScan_eq (i : ScanIx) (slot : Option (PointIx × Nat)) :
    writeScan i slot s =
      { s with line := { s.line with scan := s.line.scan.set i { slot := slot }, hold := rewrittenHold i s.line.hold } } := by
  have hhold : (s.setScanEntry i { slot := slot }).line.hold = s.line.hold := rfl
  unfold writeScan markRewritten
  rw [hhold]
  cases hh : s.line.hold with
  | exchange x =>
    obtain ⟨job, _⟩ := x
    cases job with
    | poll j p rewritten =>
      by_cases hij : i = j
      · simp [rewrittenHold, hij, setHold, State.setLine, State.setScanEntry]
      · simp [rewrittenHold, hij, State.setScanEntry, hh]
    | _ => simp [rewrittenHold, State.setScanEntry, hh]
  | _ => simp [rewrittenHold, State.setScanEntry, hh]

theorem scannedElsewhere_iff {i : ScanIx} {p : PointIx} :
    scannedElsewhere s i p = true ↔ ∃ j q, j ≠ i ∧ (s.scanEntry j).slot = some (p, q) := by
  simp [scannedElsewhere, Option.any_eq_true]

/-- R62: a scan entry's checks, BAD_VALUE before CONFLICT (log 39). -/
theorem loadScanRecord_content {i : ScanIx} {p : PointIx} {period : Nat} (hb : scanBody r = .content (p, period)) :
    loadScanRecord i r s =
      if (fieldSource (s.point p)).isNone then (.badValue, s)
      else if scannedElsewhere s i p then (.conflict, s)
      else (.ok, writeScan i (some (p, period)) s) := by
  simp only [loadScanRecord, hb, refused, accepted]

/-- Settles O16, table by table, each by its block's checks in their order. -/
theorem smallTableLoads : Obligations.SmallTableLoads := by
  intro s record tag rest
  refine ⟨fun i h => ⟨fun hused => ?_, fun hfree => ?_⟩, fun i h => ?_, fun i h => ?_, fun i h => ?_⟩
  · exact loads_refuse (by decide) h rfl (loadCurveRecord_busy (s := withRequests s rest) hused)
  · have hload := loadCurveRecord_free (s := withRequests s rest) (r := record) hfree
    exact ⟨fun hb => loads_refuse (by decide) h rfl (by rw [hload, hb]),
      fun hb => loads_accept (by decide) h rfl (by rw [hload, hb]; rfl),
      fun c hb => loads_accept (by decide) h rfl (by rw [hload, hb]; rfl)⟩
  · refine ⟨fun hb => loads_refuse (by decide) h rfl ?_, fun hb => loads_accept (by decide) h rfl ?_, fun p period hb => ⟨fun hfield => ?_,
      fun n ch hfield => ⟨fun htaken => ?_, fun hfree => ?_⟩⟩⟩
    · simp only [loadScanRecord, hb, refused]
    · simp only [loadScanRecord, hb, accepted, writeScan_eq]
      rfl
    · refine loads_refuse (by decide) h rfl ?_
      rw [loadScanRecord_content hb, fieldSource_none (s := withRequests s rest).mpr hfield]
      rfl
    · have hfield' : fieldSource ((withRequests s rest).point p) = some (n, ch) := fieldSource_iff.mpr hfield
      refine loads_refuse (by decide) h rfl ?_
      rw [loadScanRecord_content hb, hfield', if_neg (by simp), if_pos (scannedElsewhere_iff (s := withRequests s rest).mpr htaken)]
    · have hfield' : fieldSource ((withRequests s rest).point p) = some (n, ch) := fieldSource_iff.mpr hfield
      refine loads_accept (by decide) h rfl ?_
      rw [loadScanRecord_content hb, hfield', if_neg (by simp), if_neg, writeScan_eq]
      · rfl
      · rw [scannedElsewhere_iff]
        rintro ⟨j, q, hj, hq⟩
        exact hfree j q hj hq
  · refine ⟨fun hb => loads_refuse (by decide) h rfl ?_, fun hb => loads_accept (by decide) h rfl ?_, fun e hb =>
      loads_accept (by decide) h rfl ?_⟩
    · simp only [loadInterlockRecord, hb, refused]
    · simp only [loadInterlockRecord, hb, accepted]
      rfl
    · simp only [loadInterlockRecord, hb, accepted]
      rfl
  · refine ⟨fun hb => loads_refuse (by decide) h rfl ?_, fun hb => loads_accept (by decide) h rfl ?_, fun e hb =>
      loads_accept (by decide) h rfl ?_⟩
    · simp only [loadClassRecord, hb, refused]
    · simp only [loadClassRecord, hb, accepted]
      rfl
    · simp only [loadClassRecord, hb, accepted]
      rfl

/-! ### Streams -/

theorem loadStreamRecord_busy {i : StreamIx} (h : (s.stream i).state ≠ .offline) : loadStreamRecord i r s = (.busy, s) := if_pos h

theorem loadStreamRecord_offline {i : StreamIx} (h : (s.stream i).state = .offline) :
    loadStreamRecord i r s =
      match streamBody r with
      | .bad => (.badValue, s)
      | .unload => (.ok, if (s.stream i).cfg.isSome then s.setStream i {} else s)
      | .content c =>
        if streamPointsWrong s c then (.badValue, s)
        else if streamConflict s i c then (.conflict, s)
        else (.ok, s.setStream i { cfg := some c }) :=
  if_neg (not_not_intro h)

theorem streamPointsWrong_iff {c : StreamCfg} :
    streamPointsWrong s c = true ↔ WrongKind s c.silverPoint .silver ∨ WrongKind s c.flowPoint .flow := by
  rw [streamPointsWrong, Bool.or_eq_true, wrongKind_iff, wrongKind_iff]

theorem streamConflict_iff {i : StreamIx} {c : StreamCfg} :
    streamConflict s i c = true ↔ OwnedElsewhere s c.route (.stream i) ∨ FlowTaken s c.flowPoint (.stream i) := by
  rw [streamConflict, Bool.or_eq_true, ownedByOther_iff, counterTaken_iff]

/-- Settles O17, by the block's checks in their order. -/
theorem streamLoadsTakeTheirClaims : Obligations.StreamLoadsTakeTheirClaims := by
  intro s i record tag rest h
  refine ⟨fun hbusy => loads_refuse (by decide) h rfl (loadStreamRecord_busy (s := withRequests s rest) hbusy), fun hoff => ?_⟩
  have hload := loadStreamRecord_offline (s := withRequests s rest) (r := record) hoff
  refine ⟨fun hb => loads_refuse (by decide) h rfl (by rw [hload, hb]), fun hb => ⟨fun hnone => ?_, fun old hold => ?_⟩,
    fun c hb => ⟨fun hwrong => ?_, fun hsilver hflow => ⟨fun hconflict => ?_, fun hroute hmeter => ?_⟩⟩⟩
  · refine loads_refuse (by decide) h rfl ?_
    have hcfg : ((withRequests s rest).stream i).cfg = none := hnone
    simp [hload, hb, hcfg]
  · refine loads_accept (by decide) h rfl ?_
    have hcfg : ((withRequests s rest).stream i).cfg = some old := hold
    simp only [hload, hb, hcfg, Option.isSome_some, if_true]
    rfl
  · refine loads_refuse (by decide) h rfl ?_
    simp only [hload, hb, if_pos (streamPointsWrong_iff (s := withRequests s rest).mpr hwrong)]
  · refine loads_refuse (by decide) h rfl ?_
    simp only [hload, hb, if_neg (streamPointsWrong_iff (s := withRequests s rest).not.mpr (not_or.mpr ⟨hsilver, hflow⟩)),
      if_pos (streamConflict_iff (s := withRequests s rest).mpr hconflict)]
  · refine loads_accept (by decide) h rfl ?_
    simp only [hload, hb, if_neg (streamPointsWrong_iff (s := withRequests s rest).not.mpr (not_or.mpr ⟨hsilver, hflow⟩)),
      if_neg (streamConflict_iff (s := withRequests s rest).not.mpr (not_or.mpr ⟨hroute, hmeter⟩))]
    rfl

/-! ### Actuators -/

theorem loadActuatorRecord_busy {a : ActIx} (h : OwnerUses s a) : loadActuatorRecord a r s = (.busy, s) :=
  if_pos (ownerInService_iff.mpr h)

theorem loadActuatorRecord_free {a : ActIx} (h : ¬ OwnerUses s a) :
    loadActuatorRecord a r s =
      match actuatorBody r with
      | .bad => (.badValue, s)
      | .unload => (.ok, if (s.actuator a).cfg.isSome then unloadActuator a s else s)
      | .content c => if bindingTaken s a c.binding then (.conflict, s) else (.ok, installActuator a c s) :=
  if_neg (h ∘ ownerInService_iff.mp)

theorem bindingTaken_iff {a : ActIx} {b : Binding} :
    bindingTaken s a b = true ↔ ∃ o x, o ≠ a ∧ (s.actuator o).cfg = some x ∧ x.binding = b := by
  simp [bindingTaken, Option.any_eq_true]

theorem unloadActuator_eq (a : ActIx) : unloadActuator a s = { s.setActuator a {} with line := clearedLine s a } := by
  rw [unloadActuator, clearActuator_eq]
  rfl

/-- R76: the safe value of a FIELD-bound actuator goes out through the control set queue. -/
theorem installActuator_field {a : ActIx} {c : ActuatorCfg} {n : NodeIx} {ch : Channel} (h : c.binding = .field n ch) :
    installActuator a c s =
      { s.setActuator a { cfg := some c, desired := c.safe, state := .pending } with
        line := { clearedLine s a with controlQ := (clearedLine s a).controlQ ++ [a] } } := by
  rw [installActuator, clearActuator_eq]
  simp only [h, enqueue_eq, State.setActuator_actuator_self, State.setActuator_setActuator]
  rfl

/-- R76, R80: the safe value of a PIN-bound actuator goes to its pin at once. -/
theorem installActuator_pin {a : ActIx} {c : ActuatorCfg} {p : PinIx} (h : c.binding = .pin p) :
    installActuator a c s = appliedTo ({ s.setActuator a { cfg := some c } with line := clearedLine s a }) a p c.safe := by
  rw [installActuator, clearActuator_eq, ← applyPin_desired]
  simp only [h]
  congr 1
  simp [State.setActuator, State.setLine, State.actuator]

theorem appliedTo_withRequests (a : ActIx) (p : PinIx) (v : Nat) :
    appliedTo (withRequests s rest) a p v = withRequests (appliedTo s a p v) rest := by
  have hpin : (withRequests s rest).pin p = s.pin p := rfl
  unfold appliedTo
  rw [hpin]
  split
  · rfl
  · rfl

/-- Settles O18, by the block's checks in their order and the actuator's binding. -/
theorem actuatorLoadsSendTheSafeValue : Obligations.ActuatorLoadsSendTheSafeValue := by
  intro s a record tag rest h
  refine ⟨fun hbusy => loads_refuse (by decide) h rfl (loadActuatorRecord_busy (s := withRequests s rest) hbusy), fun hfree => ?_⟩
  have hload := loadActuatorRecord_free (s := withRequests s rest) (r := record) hfree
  refine ⟨fun hb => loads_refuse (by decide) h rfl (by rw [hload, hb]), fun hb => ⟨fun hnone => ?_, fun old hold => ?_⟩,
    fun c hb => ⟨fun htaken => ?_, fun hown => ?_⟩⟩
  · refine loads_refuse (by decide) h rfl ?_
    have hcfg : ((withRequests s rest).actuator a).cfg = none := hnone
    simp [hload, hb, hcfg]
  · refine loads_accept (by decide) h rfl ?_
    have hcfg : ((withRequests s rest).actuator a).cfg = some old := hold
    simp only [hload, hb, hcfg, Option.isSome_some, if_true, unloadActuator_eq]
    rfl
  · refine loads_refuse (by decide) h rfl ?_
    simp only [hload, hb, if_pos (bindingTaken_iff (s := withRequests s rest).mpr htaken)]
  · have hbind : ¬ bindingTaken (withRequests s rest) a c.binding = true := fun ht => by
      obtain ⟨o, x, ho, hx, hsame⟩ := bindingTaken_iff.mp ht
      exact hown o x ho hx hsame
    refine ⟨fun n ch hc => loads_accept (by decide) h rfl ?_, fun p hc => loads_accept (by decide) h rfl ?_⟩
    · simp only [hload, hb, if_neg hbind, installActuator_field hc]
      rfl
    · simp only [hload, hb, if_neg hbind, installActuator_pin hc]
      exact congrArg _ (appliedTo_withRequests (s := { s.setActuator a { cfg := some c } with line := clearedLine s a }) a p c.safe)

/-! ### Cells and chains -/

theorem loadCellRecord_busy {e : CellIx} (h : (s.cell e).state ≠ .idle) : loadCellRecord e r s = (.busy, s) := if_pos h

theorem loadCellRecord_idle {e : CellIx} (h : (s.cell e).state = .idle) :
    loadCellRecord e r s =
      match cellBody r with
      | .bad => (.badValue, s)
      | .unload => (.ok, if (s.cell e).cfg.isSome then s.setCell e {} else s)
      | .content c =>
        if wrongKind .volt (s.point c.voltPoint) then (.badValue, s) else (.ok, s.setCell e { cfg := some c }) :=
  if_neg (not_not_intro h)

theorem loadChainRecord_busy {k : ChainIx} (h : HasLead s k) : loadChainRecord k r s = (.busy, s) := if_pos (hasLead_iff.mpr h)

theorem loadChainRecord_free {k : ChainIx} (h : ¬ HasLead s k) :
    loadChainRecord k r s =
      match chainBody r with
      | .bad => (.badValue, s)
      | .unload => (.ok, if (s.chain k).cfg.isSome then s.setChain k {} else s)
      | .content c =>
        if tailWrong s c then (.badValue, s)
        else if ownedByOther s c.order (.chain k) then (.conflict, s)
        else (.ok, s.setChain k { cfg := some c, metering := some 1000 }) :=
  if_neg (h ∘ hasLead_iff.mp)

theorem tailWrong_iff {c : ChainCfg} : tailWrong s c = true ↔ ∃ p, c.tail = some p ∧ WrongKind s p .silver := by
  simp [tailWrong, Option.any_eq_true, wrongKind_iff]

/-- Settles O19, of both tables by the block's checks in their order. -/
theorem cellAndChainLoads : Obligations.CellAndChainLoads := by
  intro s record tag rest
  refine ⟨fun e h => ⟨fun hbusy => loads_refuse (by decide) h rfl (loadCellRecord_busy (s := withRequests s rest) hbusy), fun hidle => ?_⟩,
    fun k h => ⟨fun hbusy => loads_refuse (by decide) h rfl (loadChainRecord_busy (s := withRequests s rest) hbusy), fun hfree => ?_⟩⟩
  · have hload := loadCellRecord_idle (s := withRequests s rest) (r := record) hidle
    refine ⟨fun hb => loads_refuse (by decide) h rfl (by rw [hload, hb]), fun hb => ⟨fun hnone => ?_, fun old hold => ?_⟩,
      fun c hb => ⟨fun hwrong => ?_, fun hkind => ?_⟩⟩
    · refine loads_refuse (by decide) h rfl ?_
      have hcfg : ((withRequests s rest).cell e).cfg = none := hnone
      simp [hload, hb, hcfg]
    · refine loads_accept (by decide) h rfl ?_
      have hcfg : ((withRequests s rest).cell e).cfg = some old := hold
      simp only [hload, hb, hcfg, Option.isSome_some, if_true]
      rfl
    · refine loads_refuse (by decide) h rfl ?_
      simp only [hload, hb, if_pos (wrongKind_iff (s := withRequests s rest).mpr hwrong)]
    · refine loads_accept (by decide) h rfl ?_
      simp only [hload, hb, if_neg (wrongKind_iff (s := withRequests s rest).not.mpr hkind)]
      rfl
  · have hload := loadChainRecord_free (s := withRequests s rest) (r := record) hfree
    refine ⟨fun hb => loads_refuse (by decide) h rfl (by rw [hload, hb]), fun hb => ⟨fun hnone => ?_, fun old hold => ?_⟩,
      fun c hb => ⟨fun p hp hwrong => ?_, fun hkind => ?_⟩⟩
    · refine loads_refuse (by decide) h rfl ?_
      have hcfg : ((withRequests s rest).chain k).cfg = none := hnone
      simp [hload, hb, hcfg]
    · refine loads_accept (by decide) h rfl ?_
      have hcfg : ((withRequests s rest).chain k).cfg = some old := hold
      simp only [hload, hb, hcfg, Option.isSome_some, if_true]
      rfl
    · refine loads_refuse (by decide) h rfl ?_
      simp only [hload, hb, if_pos (tailWrong_iff (s := withRequests s rest).mpr ⟨p, hp, hwrong⟩)]
    · have htail : ¬ tailWrong (withRequests s rest) c = true := fun ht => by
        obtain ⟨p, hp, hwrong⟩ := tailWrong_iff.mp ht
        exact hkind p hp hwrong
      refine ⟨fun hconflict => loads_refuse (by decide) h rfl ?_, fun hown => loads_accept (by decide) h rfl ?_⟩
      · simp only [hload, hb, if_neg htail, if_pos (ownedByOther_iff (s := withRequests s rest).mpr hconflict)]
      · simp only [hload, hb, if_neg htail, if_neg (ownedByOther_iff (s := withRequests s rest).not.mpr hown)]
        rfl

/-! ### Tanks, the permit and the line -/

theorem loadTankRecord_busy {t : TankIx} (h : (s.tank t).state ≠ .idle) : loadTankRecord t r s = (.busy, s) := if_pos h

theorem loadTankRecord_idle {t : TankIx} (h : (s.tank t).state = .idle) :
    loadTankRecord t r s =
      match tankBody r with
      | .bad => (.badValue, s)
      | .unload => (.ok, if (s.tank t).cfg.isSome then s.setTank t {} else s)
      | .content c =>
        if tankPointsWrong s c || drainSafeOpen s c then (.badValue, s)
        else if tankConflict s t c then (.conflict, s)
        else (.ok, s.setTank t { cfg := some c, metering := some 1000 }) :=
  if_neg (not_not_intro h)

theorem drainSafeOpen_iff {c : TankCfg} :
    drainSafeOpen s c = true ↔ ∃ x, (s.actuator c.drain.act).cfg = some x ∧ x.safe = c.drain.opened := by
  simp [drainSafeOpen, Option.any_eq_true]

/-- R147, R151: what is wrong with a tank's points and drain. -/
theorem tankWrong_iff {c : TankCfg} :
    (tankPointsWrong s c || drainSafeOpen s c) = true ↔
      WrongKind s c.levelPoint .level ∨ WrongKind s c.silverPoint .silver ∨ WrongKind s c.phPoint .ph ∨
        WrongKind s c.outletPoint .flow ∨ ∃ x, (s.actuator c.drain.act).cfg = some x ∧ x.safe = c.drain.opened := by
  simp only [tankPointsWrong, Bool.or_eq_true, wrongKind_iff, drainSafeOpen_iff, or_assoc]

/-- R77, R147: the claims of a tank that are taken. -/
theorem tankConflict_iff {t : TankIx} {c : TankCfg} :
    tankConflict s t c = true ↔
      ¬ [c.inlet.act, c.drain.act, c.rework.act].Nodup ∨
        (∃ a ∈ [c.inlet.act, c.drain.act, c.rework.act], OwnedElsewhere s a (.tank t)) ∨ FlowTaken s c.outletPoint (.tank t) := by
  have hroles : rolesClash c = true ↔ ¬ [c.inlet.act, c.drain.act, c.rework.act].Nodup := by
    simp only [rolesClash, List.nodup_cons, List.mem_cons, List.not_mem_nil, or_false, Bool.or_eq_true, decide_eq_true_eq]
    simp only [not_false_eq_true, List.nodup_nil, and_true]
    tauto
  simp only [tankConflict, Bool.or_eq_true, hroles, ownedByOther_iff, counterTaken_iff, List.mem_cons, List.not_mem_nil, or_false,
    exists_eq_or_imp, exists_eq_left, or_assoc]

theorem loadPermitRecord_busy {i : Fin 1} {t : TankIx} (h : releasingTank s = some t) : loadPermitRecord i r s = (.busy, s) :=
  if_pos (by rw [h]; rfl)

theorem loadPermitRecord_free {i : Fin 1} (h : releasingTank s = none) :
    loadPermitRecord i r s =
      match permitBody r with
      | .bad => (.badValue, s)
      | .unload => (.ok, s.setDisch (dropPermit s.disch))
      | .content c =>
        if permitPointsWrong s c then (.badValue, s) else (.ok, budgetAlerts (s.setDisch (takePermit c s.disch))) :=
  if_neg (by rw [h]; decide)

theorem permitPointsWrong_iff {c : PermitCfg} :
    permitPointsWrong s c = true ↔ WrongKind s c.silverPoint .silver ∨ WrongKind s c.phPoint .ph := by
  rw [permitPointsWrong, Bool.or_eq_true, wrongKind_iff, wrongKind_iff]

theorem takePermit_eq (c : PermitCfg) (d : Discharge) :
    takePermit c d =
      { d with
        permit := some c
        permitDay := dayOf (some c) d.clock
        consumed := c.start
        released := if d.permit = none then 0 else d.released
        peak := if d.permit = none then 0 else d.peak
        lowAlerted := false
        exhaustedAlerted := false } := by
  cases hp : d.permit <;> simp [takePermit, hp]

theorem budgetAlerts_withRequests : budgetAlerts (withRequests s rest) = withRequests (budgetAlerts s) rest := by
  have hlow : alertLow (withRequests s rest) = withRequests (alertLow s) rest := by
    have hdue : lowDue (withRequests s rest) = lowDue s := rfl
    unfold alertLow
    rw [hdue]
    split
    · rfl
    · rfl
  have hexhausted (s : State) : alertExhausted (withRequests s rest) = withRequests (alertExhausted s) rest := by
    have hdue : exhaustedDue (withRequests s rest) = exhaustedDue s := rfl
    unfold alertExhausted
    rw [hdue]
    split
    · rfl
    · rfl
  rw [budgetAlerts, hlow, hexhausted]
  rfl

/-- Settles O20, table by table, each by its block's checks in their order. -/
theorem tankPermitAndLineLoads : Obligations.TankPermitAndLineLoads := by
  refine ⟨fun s t record tag rest h => ?_, fun s record tag rest => ⟨fun h => ⟨fun t ht => ?_, fun hnone => ?_⟩, fun h => ⟨fun hb => ?_,
    fun c hb => ?_⟩⟩⟩
  · refine ⟨fun hbusy => loads_refuse (by decide) h rfl (loadTankRecord_busy (s := withRequests s rest) hbusy), fun hidle => ?_⟩
    have hload := loadTankRecord_idle (s := withRequests s rest) (r := record) hidle
    refine ⟨fun hb => loads_refuse (by decide) h rfl (by rw [hload, hb]), fun hb => ⟨fun hnone => ?_, fun old hold => ?_⟩,
      fun c hb => ⟨fun hwrong => ?_, fun hlevel hsilver hph houtlet hdrain => ?_⟩⟩
    · refine loads_refuse (by decide) h rfl ?_
      have hcfg : ((withRequests s rest).tank t).cfg = none := hnone
      simp [hload, hb, hcfg]
    · refine loads_accept (by decide) h rfl ?_
      have hcfg : ((withRequests s rest).tank t).cfg = some old := hold
      simp only [hload, hb, hcfg, Option.isSome_some, if_true]
      rfl
    · refine loads_refuse (by decide) h rfl ?_
      simp only [hload, hb, if_pos (tankWrong_iff (s := withRequests s rest).mpr hwrong)]
    · have hright : ¬ (tankPointsWrong (withRequests s rest) c || drainSafeOpen (withRequests s rest) c) = true := by
        rw [tankWrong_iff]
        rintro (hw | hw | hw | hw | ⟨x, hx, hopen⟩)
        · exact hlevel hw
        · exact hsilver hw
        · exact hph hw
        · exact houtlet hw
        · exact hdrain x hx hopen
      refine ⟨fun hconflict => loads_refuse (by decide) h rfl ?_, fun hown => loads_accept (by decide) h rfl ?_⟩
      · simp only [hload, hb, if_neg hright, if_pos (tankConflict_iff (s := withRequests s rest).mpr hconflict)]
      · simp only [hload, hb, if_neg hright, if_neg (tankConflict_iff (s := withRequests s rest).not.mpr hown)]
        rfl
  · exact loads_refuse (i := (0 : Fin 1)) (by decide) h rfl (loadPermitRecord_busy (s := withRequests s rest) ht)
  · have hload := loadPermitRecord_free (s := withRequests s rest) (r := record) (i := 0) hnone
    refine ⟨fun hb => loads_refuse (i := (0 : Fin 1)) (by decide) h rfl (by rw [hload, hb]),
      fun hb => loads_accept (i := (0 : Fin 1)) (by decide) h rfl (by rw [hload, hb]; rfl),
      fun c hb => ⟨fun hwrong => ?_, fun hsilver hph => ?_⟩⟩
    · refine loads_refuse (i := (0 : Fin 1)) (by decide) h rfl ?_
      simp only [hload, hb, if_pos (permitPointsWrong_iff (s := withRequests s rest).mpr hwrong)]
    · refine loads_accept (i := (0 : Fin 1)) (by decide) h rfl ?_
      simp only [hload, hb, if_neg (permitPointsWrong_iff (s := withRequests s rest).not.mpr (not_or.mpr ⟨hsilver, hph⟩))]
      refine congrArg _ ((budgetAlerts_withRequests (s := s.setDisch (takePermit c s.disch))).trans ?_)
      rw [takePermit_eq]
      rfl
  · refine loads_refuse (i := (0 : Fin 1)) (by decide) h rfl ?_
    rcases hb with hb | hb <;> simp only [loadLineRecord, hb, refused]
  · refine loads_accept (i := (0 : Fin 1)) (by decide) h rfl ?_
    simp only [loadLineRecord, hb, accepted]
    rfl

end Sys2Proof.Machine
end


section
/-! The LOAD of a pin map entry: O21. -/

namespace Sys2Proof.Machine

variable {s : State} {rest : List Request} {tag : Byte} {r record : List Byte} {p : PinIx} {f : PinFn} {a : ActIx}

/-- The first index that a search from the lowest finds. -/
theorem find?_finRange_eq_some {n : Nat} {q : Fin n → Bool} {i : Fin n} :
    (List.finRange n).find? q = some i ↔ q i = true ∧ ∀ j, j < i → q j = false := by
  rw [List.find?_eq_some_iff_getElem]
  refine and_congr_right fun _ => ⟨?_, fun h => ⟨i, by simp, by simp, fun j hj => ?_⟩⟩
  · rintro ⟨k, hk, hi, hlow⟩ j hj
    have hki : k = i.val := by simpa [Fin.ext_iff] using hi
    simpa using hlow j (by omega)
  · simpa using h ⟨j, by omega⟩ hj

theorem find?_finRange_eq_none {n : Nat} {q : Fin n → Bool} : (List.finRange n).find? q = none ↔ ∀ i, q i = false := by
  simp

/-! ### The pin and the counters after a mapping -/

/-- R97: the counters after a pin takes its function: the one assigned is 0, and with the cascade flag the odd half of its pair too. -/
def assignedCounters (f : PinFn) (s : State) : Vector (BitVec 16) 6 :=
  match f with
  | .counter q _ cascade => Vector.ofFn fun r => if r = q ∨ (cascade = true ∧ r.val = q.val + 1) then 0 else s.counter r
  | _ => s.counters

/-- R97: the state after a pin has moved to its new function, before the Actuator Table is told. -/
def mappedTo (p : PinIx) (f : PinFn) (s : State) : State :=
  { s.setPin p (remap f (s.pin p)) with counters := assignedCounters f s }

theorem isOutput_iff : isOutput f = true ↔ ∃ inv, f = .output inv := by cases f <;> simp [isOutput]

theorem boundToPin_iff : boundToPin p (s.actuator a) = true ↔ ∃ safe, (s.actuator a).cfg = some { binding := .pin p, safe := safe } := by
  unfold boundToPin
  rcases (s.actuator a).cfg with _ | ⟨binding, safe⟩
  · simp
  · cases binding <;> simp

theorem oddPartner_iff : ∀ q r : CounterIx, q.val % 2 = 0 → (r = oddPartner q ↔ r.val = q.val + 1) := by decide

theorem clearAssigned_eq (h : ¬ PinLacks p f) : clearAssigned f (s.setPin p (remap f (s.pin p))) = mappedTo p f s := by
  cases f with
  | counter q edge cascade =>
    have hodd (r : CounterIx) : (cascade = true ∧ r = oddPartner q) ↔ (cascade = true ∧ r.val = q.val + 1) := by
      refine and_congr_right fun hc => oddPartner_iff q r ?_
      by_contra hq
      exact h (.inl ⟨q, edge, cascade, rfl, .inr ⟨hc, by omega⟩⟩)
    have hcounters : (if cascade then (s.counters.set q 0).set (oddPartner q) 0 else s.counters.set q 0) =
        assignedCounters (.counter q edge cascade) s := by
      apply Vector.ext
      intro i hi
      have hthis := hodd ⟨i, hi⟩
      simp only [Fin.ext_iff] at hthis
      cases cascade <;> simp [assignedCounters, Vector.getElem_set, Fin.ext_iff, State.counter] <;> grind
    rw [mappedTo, ← hcounters]
    cases cascade <;> rfl
  | _ => rfl

/-! ### Telling the Actuator Table -/

/-- R84: `a` is the actuator bound to the pin. -/
def BoundHere (s : State) (p : PinIx) (a : ActIx) : Prop :=
  boundToPin p (s.actuator a) = true ∧ ∀ b, b < a → boundToPin p (s.actuator b) = false

/-- R84: a mapping that does not change whether the pin is an OUTPUT, or whose pin has no actuator, moves the pin alone. -/
theorem takeMapping_quiet (hlack : ¬ PinLacks p f)
    (h : isOutput (s.pin p).fn = isOutput f ∨ ∀ a, boundToPin p (s.actuator a) = false) : takeMapping p f s = mappedTo p f s := by
  rw [takeMapping, clearAssigned_eq hlack]
  rcases h with h | h
  · exact if_pos h
  · have hnone : ((List.finRange 16).find? fun a => boundToPin p ((mappedTo p f s).actuator a)) = none := find?_finRange_eq_none.mpr h
    unfold notifyMapping
    rw [hnone, ite_self]

/-- R84, R179: the actuator of a pin whose mapping changed is told, and then a drain that this has made FAILED. -/
theorem takeMapping_told (hlack : ¬ PinLacks p f) (h : isOutput (s.pin p).fn ≠ isOutput f) (ha : BoundHere s p a) :
    takeMapping p f s =
      drainFailed a
        (if isOutput (s.pin p).fn && !isOutput f then pinLost a (mappedTo p f s) else applyPin a p (mappedTo p f s)) := by
  have hfind : ((List.finRange 16).find? fun a => boundToPin p ((mappedTo p f s).actuator a)) = some a :=
    find?_finRange_eq_some.mpr ha
  rw [takeMapping, clearAssigned_eq hlack, notifyMapping, if_neg h]
  simp only [pinMappingChanged, hfind]
  revert h
  cases isOutput (s.pin p).fn <;> cases isOutput f <;> simp

/-- R179: an actuator that is no RELEASING tank's drain stops no release. -/
theorem drainFailed_of_not_drains (h : ¬ DrainsRelease s a) : drainFailed a s = s := by
  unfold drainFailed
  split
  · cases ht : releasingTank s with
    | none => rfl
    | some t =>
      refine if_neg fun hany => h ?_
      obtain ⟨c, hc, hact⟩ := (Option.any_eq_true _ _).mp hany
      exact ⟨t, c, ht, hc, by simpa using hact⟩
  · rfl

/-- R179: an actuator that is neither REFUSED nor FAILED stops no release. -/
theorem drainFailed_of_state (hr : (s.actuator a).state ≠ .refused) (hf : (s.actuator a).state ≠ .failed) : drainFailed a s = s :=
  if_neg (by simp [hr, hf])

/-- R84: the actuator of a pin that ceased to be an OUTPUT. -/
theorem pinLost_mappedTo :
    pinLost a (mappedTo p f s) =
      { (mappedTo p f s).setActuator a { withoutPin (s.actuator a) (s.actuator a).desired with confirmed := none } with
        reports := unmappedReported s a } := by
  have hact : (mappedTo p f s).actuator a = s.actuator a := rfl
  rw [pinLost, failUnmapped, State.setActuator_actuator_self, State.setActuator_setActuator, raiseAlert_eq, hact]
  rfl

theorem appliedTo_state (h : isOutput (s.pin p).fn = true) {v : Nat} :
    ((appliedTo s a p v).actuator a).state = .idle := by
  unfold appliedTo
  rw [if_pos h, State.setActuator_actuator_self]
  rfl

/-- R96: an actuator whose pin no object in service uses is no RELEASING tank's drain. -/
theorem not_drainsRelease_of_unused (hfree : ¬ PinUsed s p) (ha : boundToPin p (s.actuator a) = true) : ¬ DrainsRelease s a := by
  rintro ⟨t, c, ht, hc, hdrain⟩
  obtain ⟨safe, hcfg⟩ := boundToPin_iff.mp ha
  have hstate := releasing_of_releasingTank ht
  refine hfree (.inr (.inr (.inr (.inr (.inr ⟨a, safe, hcfg, .tank t, ⟨c, hc, .inr (.inl hdrain)⟩, ?_⟩)))))
  change (s.tank t).state ≠ .idle
  rw [hstate]
  exact nofun

/-- R84: the pin of an actuator ceases to be an OUTPUT. -/
theorem takeMapping_lost (hlack : ¬ PinLacks p f) (hfree : ¬ PinUsed s p) (ha : BoundHere s p a) (hwas : isOutput (s.pin p).fn = true)
    (hnow : isOutput f = false) :
    takeMapping p f s =
      { (mappedTo p f s).setActuator a { withoutPin (s.actuator a) (s.actuator a).desired with confirmed := none } with
        reports := unmappedReported s a } := by
  rw [takeMapping_told hlack (by rw [hwas, hnow]; exact nofun) ha, hwas, hnow]
  change drainFailed a (pinLost a (mappedTo p f s)) = _
  rw [pinLost_mappedTo]
  exact drainFailed_of_not_drains (show ¬ DrainsRelease s a from not_drainsRelease_of_unused hfree ha.1)

/-- R84: the pin of an actuator becomes an OUTPUT. -/
theorem takeMapping_gained (hlack : ¬ PinLacks p f) (ha : BoundHere s p a) (hwas : isOutput (s.pin p).fn = false)
    (hnow : isOutput f = true) : takeMapping p f s = appliedTo (mappedTo p f s) a p (s.actuator a).desired := by
  rw [takeMapping_told hlack (by rw [hwas, hnow]; exact nofun) ha, hwas, hnow]
  change drainFailed a (applyPin a p (mappedTo p f s)) = _
  rw [applyPin_eq]
  have hpin : isOutput ((mappedTo p f s).pin p).fn = true := by
    change isOutput ((s.setPin p (remap f (s.pin p))).pin p).fn = true
    rw [State.setPin_pin_self]
    revert hnow
    cases f <;> simp [remap, isOutput]
  have hidle := appliedTo_state (a := a) hpin (v := ((mappedTo p f s).actuator a).desired)
  exact drainFailed_of_state (by rw [hidle]; exact nofun) (by rw [hidle]; exact nofun)

/-! ### The load -/

theorem loadPinRecord_busy (h : PinUsed s p) : loadPinRecord p r s = (.busy, s) := if_pos (pinInService_iff.mpr h)

theorem loadPinRecord_bad (h : ¬ PinUsed s p) (hb : pinBody r = .bad) : loadPinRecord p r s = (.badValue, s) := by
  rw [loadPinRecord, if_neg (h ∘ pinInService_iff.mp), hb]
  rfl

theorem loadPinRecord_fn (h : ¬ PinUsed s p) (hb : pinBody r = .content f ∨ (pinBody r = .unload ∧ f = .unused)) :
    loadPinRecord p r s = loadPinFn p f s := by
  rw [loadPinRecord, if_neg (h ∘ pinInService_iff.mp)]
  rcases hb with hb | ⟨hb, rfl⟩
  · rw [hb]
  · rw [hb]

theorem loadPinFn_lacks (h : PinLacks p f) : loadPinFn p f s = (.badValue, s) := if_pos (pinFnBad_iff.mpr h)

theorem loadPinFn_clashes (h : ¬ PinLacks p f) (hc : PinClashes s p f) : loadPinFn p f s = (.conflict, s) := by
  have hbad : pinFnBad p f = false := Bool.eq_false_iff.mpr (h ∘ pinFnBad_iff.mp)
  exact (if_neg (by rw [hbad]; decide)).trans (if_pos ((pinFnConflict_iff hbad).mpr hc))

theorem loadPinFn_free (h : ¬ PinLacks p f) (hc : ¬ PinClashes s p f) : loadPinFn p f s = (.ok, takeMapping p f s) := by
  have hbad : pinFnBad p f = false := Bool.eq_false_iff.mpr (h ∘ pinFnBad_iff.mp)
  exact (if_neg (by rw [hbad]; decide)).trans (if_neg (hc ∘ (pinFnConflict_iff hbad).mp))

/-- Settles O21: the block's checks in their order, and the actuator of the pin by whether the pin was and is an OUTPUT. -/
theorem pinMapLoadsMoveThePin : Obligations.PinMapLoadsMoveThePin := by
  intro s p record tag rest h
  refine ⟨fun hused => loads_refuse (by decide) h rfl (loadPinRecord_busy (s := withRequests s rest) hused), fun hfree =>
    ⟨fun hb => loads_refuse (by decide) h rfl (loadPinRecord_bad (s := withRequests s rest) hfree hb), fun f hb => ?_⟩⟩
  have hload := loadPinRecord_fn (s := withRequests s rest) hfree hb
  refine ⟨fun hlack => loads_refuse (by decide) h rfl (hload.trans (loadPinFn_lacks hlack)),
    fun hlack hclash => loads_refuse (by decide) h rfl (hload.trans (loadPinFn_clashes (s := withRequests s rest) hlack hclash)),
    fun hlack hclear => ?_⟩
  have htaken := hload.trans (loadPinFn_free (s := withRequests s rest) hlack hclear)
  intro x new counters was now bound moved
  have hnew : new = remap f (s.pin p) := by
    clear hload hb htaken hclear hlack
    cases f with
    | output inv => simp only [new, x, remap]; cases (s.pin p).fn <;> rfl
    | input inv d => simp only [new, x, remap]; cases inv <;> simp [activeLevel]
    | _ => rfl
  have hcounters : counters = assignedCounters f s := by
    clear hload hb htaken hclear hlack
    cases f <;> rfl
  have hmoved : moved = mappedTo p f s := by
    simp only [moved, hnew, hcounters, mappedTo]
  have hwas : was ↔ isOutput (s.pin p).fn = true := isOutput_iff.symm
  have hnow : now ↔ isOutput f = true := isOutput_iff.symm
  have hbound (a : ActIx) : bound a ↔ boundToPin p (s.actuator a) = true := boundToPin_iff.symm
  refine ⟨fun hquiet => loads_accept (by decide) h rfl ?_, fun a ha hfirst => ⟨fun hw hn => loads_accept (by decide) h rfl ?_,
    fun hw hn => loads_accept (by decide) h rfl ?_⟩⟩
  · rw [htaken, takeMapping_quiet hlack, hmoved]
    · rfl
    · refine hquiet.imp (fun hsame => ?_) fun hnone a => Bool.eq_false_iff.mpr ((hbound a).not.mp (hnone a))
      exact Bool.eq_iff_iff.mpr (hwas.symm.trans (hsame.trans hnow))
  all_goals
    have hhere : BoundHere s p a := ⟨(hbound a).mp ha, fun b hb => Bool.eq_false_iff.mpr ((hbound b).not.mp (hfirst b hb))⟩
  · rw [htaken, takeMapping_lost (s := withRequests s rest) hlack hfree hhere (hwas.mp hw) (Bool.eq_false_iff.mpr (hnow.not.mp hn)), hmoved]
    rfl
  · rw [htaken, takeMapping_gained (s := withRequests s rest) hlack hhere (Bool.eq_false_iff.mpr (hwas.not.mp hw)) (hnow.mp hn), hmoved]
    exact congrArg _ (appliedTo_withRequests (s := mappedTo p f s) ..)

end Sys2Proof.Machine
end


section
/-! The COMMANDs of streams, cells, chains and tanks: O22 to O25. A command on an index is what its block answers for that record, one
lemma for each of the block's checks. -/

namespace Sys2Proof.Machine

variable {s : State} {rest : List Request} {tag : Byte}

/-! ### A command with an index -/

theorem onIndex_eq {n : Nat} (hn : n ≤ 256) (f : Fin n → State → Code × State) (i : Fin n) (code : Byte) (tail : List Byte) :
    onIndex f (code :: BitVec.ofNat 8 i.val :: tail) s = f i s := by
  have hi : i.val % 256 = i.val := Nat.mod_eq_of_lt (i.isLt.trans_le hn)
  rw [onIndex, fieldAt_second, BitVec.toNat_ofNat, hi, index?_val]

section Indexed

variable {n : Nat} {cmd : Command} {row : Instr} {i : Fin n} {code : Code} {t : State}

/-- A command whose only argument is an index is refused as its block says. -/
theorem indexed_refuses {f : Fin n → State → Code × State} (hn : n ≤ 256) (hl : argLength cmd = 1)
    (h : Executing s (commandOf cmd [BitVec.ofNat 8 i.val] tag) rest) (hc : exec row s = commandRequest cmd (onIndex f) s)
    (hb : f i (withRequests s rest) = (code, withRequests s rest)) : RefusedWith row s rest tag code :=
  command_refuses (args := [BitVec.ofNat 8 i.val]) hl.symm h hc ((onIndex_eq hn f i _ []).trans hb)

/-- A command whose only argument is an index is accepted as its block says. -/
theorem indexed_accepts {f : Fin n → State → Code × State} (hn : n ≤ 256) (hl : argLength cmd = 1)
    (h : Executing s (commandOf cmd [BitVec.ofNat 8 i.val] tag) rest) (hc : exec row s = commandRequest cmd (onIndex f) s)
    (hb : f i (withRequests s rest) = (.ok, withRequests t rest)) : AcceptedAs row s rest tag t :=
  command_accepts (args := [BitVec.ofNat 8 i.val]) hl.symm h hc ((onIndex_eq hn f i _ []).trans hb)

end Indexed

/-! ### Streams -/

section Streams

variable {i : StreamIx} {c : StreamCfg}

/-- R7: the checks of a start that answer BAD_BINDING. -/
theorem streamUnbound_iff :
    streamUnbound s c = true ↔
      ¬ (OfKind s c.silverPoint .silver ∧ OfKind s c.flowPoint .flow ∧ (s.actuator c.route).cfg ≠ none) := by
  rw [streamUnbound, Bool.or_eq_true, Bool.or_eq_true, Bool.not_eq_true', Bool.not_eq_true', ← Bool.not_eq_true, ← Bool.not_eq_true,
    isKind_iff, isKind_iff, Option.isNone_iff_eq_none]
  tauto

theorem startStream_unloaded (h : (s.stream i).cfg = none) : startStream i s = (.notLoaded, s) := by rw [startStream, h]; rfl

theorem startStream_loaded (h : (s.stream i).cfg = some c) :
    startStream i s =
      if (s.stream i).state ≠ .offline then (.busy, s)
      else if streamUnbound s c then (.badBinding, s)
      else if counterTaken s c.flowPoint (.stream i) then (.conflict, s)
      else (.ok, s.setStream i (activate s c (s.stream i))) := by
  rw [startStream, h]; rfl

theorem startStream_busy (h : (s.stream i).cfg = some c) (hbusy : (s.stream i).state ≠ .offline) : startStream i s = (.busy, s) :=
  (startStream_loaded h).trans (if_pos hbusy)

theorem startStream_offline (h : (s.stream i).cfg = some c) (hoff : (s.stream i).state = .offline) :
    startStream i s =
      if streamUnbound s c then (.badBinding, s)
      else if counterTaken s c.flowPoint (.stream i) then (.conflict, s)
      else (.ok, s.setStream i (activate s c (s.stream i))) :=
  (startStream_loaded h).trans (if_neg (not_not_intro hoff))

/-- R7: the counter snapshot of a start is the value of the flow point's counter when it has one that is mapped. -/
theorem startSnapshot_eq {old snapshot : Nat} (hnone : NoCounter s c.flowPoint → snapshot = old)
    (hsome : ∀ q k, OnCounter s c.flowPoint q k → snapshot = if counterMapped s q then counterValue s q else 0) :
    startSnapshot s c old = snapshot := by
  unfold startSnapshot
  split
  · next q k h => exact (hsome q k (counterSource_iff.mp h)).symm
  · next h => exact (hnone (counterSource_none.mp h)).symm

theorem stopStream_unloaded (h : (s.stream i).cfg = none) : stopStream i s = (.notLoaded, s) := by rw [stopStream, h]; rfl

theorem stopStream_offline (h : (s.stream i).cfg = some c) (hoff : (s.stream i).state = .offline) : stopStream i s = (.ok, s) := by
  rw [stopStream, h]
  exact congrArg _ (if_pos hoff)

theorem stopStream_running (h : (s.stream i).cfg = some c) (hon : (s.stream i).state ≠ .offline) :
    stopStream i s = (.ok, s.setStream i (deactivate (s.stream i))) := by
  rw [stopStream, h]
  exact congrArg _ (if_neg hon)

end Streams

/-- Settles O22, by the checks of the two commands in their order. -/
theorem streamsStartAndStop : Obligations.StreamsStartAndStop := by
  intro s i tag rest
  refine ⟨fun h => ⟨fun hnone => ?_, fun c hc => ⟨fun hbusy => ?_, fun hoff hbound => ?_, fun hoff hbound htaken => ?_,
    fun hoff hbound hfree snapshot hnone hsome => ?_⟩⟩, fun h => ⟨fun hnone => ?_, fun c hc => ⟨fun hoff => ?_, fun hon => ?_⟩⟩⟩
  · exact indexed_refuses (by decide) rfl h rfl (startStream_unloaded (s := withRequests s rest) hnone)
  · exact indexed_refuses (by decide) rfl h rfl (startStream_busy (s := withRequests s rest) hc hbusy)
  · exact indexed_refuses (by decide) rfl h rfl ((startStream_offline (s := withRequests s rest) hc hoff).trans
      (if_pos (streamUnbound_iff (s := withRequests s rest).mpr hbound)))
  · exact indexed_refuses (by decide) rfl h rfl ((startStream_offline (s := withRequests s rest) hc hoff).trans
      ((if_neg (streamUnbound_iff (s := withRequests s rest).not.mpr (not_not_intro hbound))).trans
        (if_pos (counterTaken_iff (s := withRequests s rest).mpr htaken))))
  · refine indexed_accepts (by decide) rfl h rfl ((startStream_offline (s := withRequests s rest) hc hoff).trans
      ((if_neg (streamUnbound_iff (s := withRequests s rest).not.mpr (not_not_intro hbound))).trans
        ((if_neg (counterTaken_iff (s := withRequests s rest).not.mpr hfree)).trans ?_)))
    rw [activate, startSnapshot_eq (s := withRequests s rest) (old := ((withRequests s rest).stream i).snapshot) hnone hsome]
    rfl
  · exact indexed_refuses (by decide) rfl h rfl (stopStream_unloaded (s := withRequests s rest) hnone)
  · exact indexed_refuses (by decide) rfl h rfl (stopStream_offline (s := withRequests s rest) hc hoff)
  · exact indexed_accepts (by decide) rfl h rfl (stopStream_running (s := withRequests s rest) hc hon)

/-! ### Cells -/

section Cells

variable {e : CellIx} {c : CellCfg}

theorem pwmMapped_iff {f : PinFn} : pwmMapped f e = true ↔ ∃ inv, f = .cellPwm e inv := by cases f <;> simp [pwmMapped]

/-- R114: the checks of a start that answer BAD_BINDING. -/
theorem cellUnbound_iff :
    cellUnbound s e c = true ↔ ¬ (OfKind s c.voltPoint .volt ∧ ∃ inv, (s.pin c.pwmPin).fn = .cellPwm e inv) := by
  rw [cellUnbound, Bool.or_eq_true, Bool.not_eq_true', Bool.not_eq_true', ← Bool.not_eq_true, ← Bool.not_eq_true, isKind_iff, pwmMapped_iff]
  tauto

theorem startCellCommand_unloaded (h : (s.cell e).cfg = none) : startCellCommand e s = (.notLoaded, s) := by
  rw [startCellCommand, h]; rfl

theorem startCellCommand_loaded (h : (s.cell e).cfg = some c) :
    startCellCommand e s =
      if (s.cell e).state ≠ .idle then (.busy, s)
      else if s.port.safeHold then (.held, s)
      else if cellUnbound s e c then (.badBinding, s)
      else (.ok, startCell e c s) := by
  rw [startCellCommand, h]; rfl

theorem startCellCommand_busy (h : (s.cell e).cfg = some c) (hbusy : (s.cell e).state ≠ .idle) : startCellCommand e s = (.busy, s) :=
  (startCellCommand_loaded h).trans (if_pos hbusy)

theorem startCellCommand_held (h : (s.cell e).cfg = some c) (hidle : (s.cell e).state = .idle) (hheld : s.port.safeHold = true) :
    startCellCommand e s = (.held, s) :=
  (startCellCommand_loaded h).trans ((if_neg (not_not_intro hidle)).trans (if_pos hheld))

theorem startCellCommand_idle (h : (s.cell e).cfg = some c) (hidle : (s.cell e).state = .idle) (hheld : s.port.safeHold = false) :
    startCellCommand e s = if cellUnbound s e c then (.badBinding, s) else (.ok, startCell e c s) :=
  (startCellCommand_loaded h).trans ((if_neg (not_not_intro hidle)).trans (if_neg (Bool.eq_false_iff.mp hheld)))

/-- R114, R119, R120, R124, R127: a cell that starts is driven at fold-back level 0, and its first charge may be a harvest due. -/
theorem startCell_eq (e : CellIx) (c : CellCfg) :
    startCell e c s =
      { s.setCell e
          { drivenCell c (inflowRate s e) 0 (s.cell e) with state := .run, fault := .none, high := 0, miss := 0 } with
        reports := harvestReported s e c (s.cell e).plated (drivenCell c (inflowRate s e) 0 (s.cell e)).plated } := by
  rw [startCell, driveCell_eq]
  rfl

theorem fromState_unloaded {st : CellState} {f : Cell → Cell} (h : (s.cell e).cfg = none) : fromState st f e s = (.notLoaded, s) :=
  if_pos (by rw [h]; rfl)

theorem fromState_busy {st : CellState} {f : Cell → Cell} (h : (s.cell e).cfg ≠ none) (hst : (s.cell e).state ≠ st) :
    fromState st f e s = (.busy, s) :=
  (if_neg (Option.isNone_iff_eq_none.not.mpr h)).trans (if_pos hst)

theorem fromState_taken {st : CellState} {f : Cell → Cell} (h : (s.cell e).cfg ≠ none) (hst : (s.cell e).state = st) :
    fromState st f e s = (.ok, s.setCell e (f (s.cell e))) :=
  (if_neg (Option.isNone_iff_eq_none.not.mpr h)).trans (if_neg (not_not_intro hst))

/-- R112: a command that takes a loaded cell from one state, in all its answers. -/
theorem fromState_command {cmd : Command} {row : Instr} {st : CellState} {f : Cell → Cell} (hlen : argLength cmd = 1)
    (hc : exec row s = commandRequest cmd (onIndex (fromState st f)) s)
    (h : Executing s (commandOf cmd [BitVec.ofNat 8 e.val] tag) rest) :
    ((s.cell e).cfg = none → RefusedWith row s rest tag .notLoaded) ∧
      ((s.cell e).cfg ≠ none → (s.cell e).state ≠ st → RefusedWith row s rest tag .busy) ∧
      ((s.cell e).cfg ≠ none → (s.cell e).state = st → AcceptedAs row s rest tag (s.setCell e (f (s.cell e)))) :=
  ⟨fun hnone => indexed_refuses (by decide) hlen h hc (fromState_unloaded (s := withRequests s rest) hnone),
    fun hsome hst => indexed_refuses (by decide) hlen h hc (fromState_busy (s := withRequests s rest) hsome hst),
    fun hsome hst => indexed_accepts (by decide) hlen h hc (fromState_taken (s := withRequests s rest) hsome hst)⟩

end Cells

/-- Settles O23: the start by its checks in their order, the three other commands by the one state that each takes a cell from. -/
theorem cellCommandsMoveTheCell : Obligations.CellCommandsMoveTheCell := by
  intro s e tag rest
  refine ⟨fun h => ⟨fun hnone => ?_, fun c hc => ⟨fun hbusy => ?_, fun hidle hheld => ?_, fun hidle hheld hbound => ?_,
    fun hidle hheld hbound => ?_⟩⟩, fun cmd row st after hrow h => ?_⟩
  · exact indexed_refuses (by decide) rfl h rfl (startCellCommand_unloaded (s := withRequests s rest) hnone)
  · exact indexed_refuses (by decide) rfl h rfl (startCellCommand_busy (s := withRequests s rest) hc hbusy)
  · exact indexed_refuses (by decide) rfl h rfl (startCellCommand_held (s := withRequests s rest) hc hidle hheld)
  · exact indexed_refuses (by decide) rfl h rfl ((startCellCommand_idle (s := withRequests s rest) hc hidle hheld).trans
      (if_pos (cellUnbound_iff (s := withRequests s rest).mpr hbound)))
  · refine indexed_accepts (by decide) rfl h rfl ((startCellCommand_idle (s := withRequests s rest) hc hidle hheld).trans
      ((if_neg (cellUnbound_iff (s := withRequests s rest).not.mpr (not_not_intro hbound))).trans ?_))
    rw [startCell_eq]
    rfl
  · obtain ⟨rfl, rfl, rfl, rfl⟩ | ⟨rfl, rfl, rfl, rfl⟩ | ⟨rfl, rfl, rfl, rfl⟩ := hrow
    · exact fromState_command (f := leaveRun .harvest) rfl rfl h
    · exact fromState_command (f := endHarvest) rfl rfl h
    · exact fromState_command (f := clearCell) rfl rfl h

/-! ### Owner requests in the state in which a request has left the queue -/

/-- R77: an owner request reads nothing of the port but SAFE-HOLD. -/
theorem ownerRequest_setPort (a : ActIx) (v : Nat) {x : PlantPort} (h : x.safeHold = s.port.safeHold) :
    ownerRequest a v (s.setPort x) = (ownerRequest a v s).setPort x := by
  have hfield : requestField a v (s.setPort x) = (requestField a v s).setPort x := by
    have hact : (s.setPort x).actuator a = s.actuator a := rfl
    unfold requestField
    rw [hact]
    cases hst : (s.actuator a).state with
    | inFlight => simp only [hst]; rfl
    | _ => simp only [hst]; split_ifs <;> rfl
  have happlied (p : PinIx) : appliedTo (s.setPort x) a p v = (appliedTo s a p v).setPort x := by
    have hpin : (s.setPort x).pin p = s.pin p := rfl
    unfold appliedTo
    rw [hpin]
    split
    · rfl
    · rfl
  have hcfg : ((s.setPort x).actuator a).cfg = (s.actuator a).cfg := rfl
  have hheld : (s.setPort x).port.safeHold = s.port.safeHold := h
  unfold ownerRequest
  rw [hheld, hcfg]
  split
  · rfl
  · split
    · rfl
    · exact hfield
    · rw [applyPin_desired, applyPin_desired]
      exact happlied _

theorem ownerRequest_withRequests (a : ActIx) (v : Nat) :
    ownerRequest a v (withRequests s rest) = withRequests (ownerRequest a v s) rest := by
  refine (ownerRequest_setPort a v (x := { s.port with requests := rest }) rfl).trans ?_
  rw [withRequests, ownerRequest_port]
  rfl

/-- R150: the requests of a tank read nothing of the port but SAFE-HOLD. -/
theorem tankRequest_withRequests (t : TankIx) : tankRequest t (withRequests s rest) = withRequests (tankRequest t s) rest := by
  have htank : (withRequests s rest).tank t = s.tank t := rfl
  unfold tankRequest
  rw [htank]
  split
  · rfl
  · simp only [ownerRequest_withRequests]

/-! ### Chains -/

section Chains

variable {k : ChainIx} {c : ChainCfg} {isA : Bool} {capacity : Nat}

/-- R135: the checks of an install that answer BAD_BINDING. -/
theorem chainUnbound_iff :
    chainUnbound s c = true ↔ ¬ ((s.actuator c.order).cfg ≠ none ∧ ∀ p, c.tail = some p → OfKind s p .silver) := by
  have htail : (c.tail.any fun p => !isKind .silver (s.point p)) = true ↔ ¬ ∀ p, c.tail = some p → OfKind s p .silver := by
    simp only [Option.any_eq_true, Bool.not_eq_true', ← Bool.not_eq_true, isKind_iff, not_forall, exists_prop]
  rw [chainUnbound, Bool.or_eq_true, htail, Option.isNone_iff_eq_none]
  tauto

/-- R135: the arguments of an install are the position and the capacity behind the index. -/
theorem installCommand_eq {a b pos : Byte} (hc : (s.chain k).cfg = some c) (hlt : capacity < 281474976710656) :
    installCommand (a :: b :: pos :: be 6 capacity) k s =
      match position? pos.toNat, within 1 Config.max48 capacity with
      | some isA, some capacity => installAt k c isA capacity s
      | _, _ => (.badValue, s) := by
  have hpos : fieldAt (a :: b :: pos :: be 6 capacity) 2 1 = pos.toNat := by simp [fieldAt, beVal_one]
  have hcap : fieldAt (a :: b :: pos :: be 6 capacity) 3 6 = capacity := by
    have hbytes : fieldAt (a :: b :: pos :: be 6 capacity) 3 6 = fieldAt (be 6 capacity) 0 6 := rfl
    rw [hbytes, fieldAt_be]
    exact Nat.mod_eq_of_lt hlt
  rw [installCommand, hc, capacity?, hpos, hcap]
  rfl

theorem installCommand_unloaded {body : List Byte} (h : (s.chain k).cfg = none) : installCommand body k s = (.notLoaded, s) := by
  rw [installCommand, h]; rfl

theorem position?_byte {pos : Byte} (h : pos = if isA then 1 else 2) : position? pos.toNat = some isA := by
  subst h
  cases isA <;> rfl

theorem position?_none {pos : Byte} (h1 : pos ≠ 1) (h2 : pos ≠ 2) : position? pos.toNat = none := by
  have hn1 : pos.toNat ≠ 1 := fun h => h1 (BitVec.eq_of_toNat_eq h)
  have hn2 : pos.toNat ≠ 2 := fun h => h2 (BitVec.eq_of_toNat_eq h)
  rw [position?, if_neg hn1, if_neg hn2]

theorem installAt_busy (h : (posOf (s.chain k) isA).state = .lead ∨ (posOf (s.chain k) isA).state = .lag) :
    installAt k c isA capacity s = (.busy, s) :=
  if_pos (by simpa using h)

theorem installAt_free (h : (posOf (s.chain k) isA).state = .empty ∨ (posOf (s.chain k) isA).state = .spent) :
    installAt k c isA capacity s =
      if chainUnbound s c then (.badBinding, s) else (.ok, installCartridge k c isA capacity s) :=
  if_neg (by rcases h with h | h <;> simp [h])

theorem removeCommand_unloaded {body : List Byte} (h : (s.chain k).cfg = none) : removeCommand body k s = (.notLoaded, s) :=
  if_pos (by rw [h]; rfl)

theorem removeCommand_loaded {a b pos : Byte} (h : (s.chain k).cfg ≠ none) :
    removeCommand [a, b, pos] k s =
      match position? pos.toNat with
      | none => (.badValue, s)
      | some isA => removeAt k isA s := by
  have hpos : fieldAt [a, b, pos] 2 1 = pos.toNat := by simp [fieldAt, beVal_one]
  rw [removeCommand, if_neg (Option.isNone_iff_eq_none.not.mpr h), hpos]
  rfl

end Chains

/-- Settles O24, by the checks of the two commands in their order. -/
theorem cartridgesAreInstalledAndRemoved : Obligations.CartridgesAreInstalledAndRemoved := by
  intro s k pos capacity tag rest
  refine ⟨fun hlt h => ?install, fun h => ?remove⟩
  case install =>
    have hargs : ([BitVec.ofNat 8 k.val, pos] ++ be 6 capacity).length = argLength .installCartridge := by simp [argLength]
    have hix (body : List Byte) := onIndex_eq (n := 4) (s := withRequests s rest) (by decide) (installCommand body) k
      (BitVec.ofNat 8 (commandCode .installCartridge)) (pos :: be 6 capacity)
    have hrefuse {code : Code} (hb : installCommand (BitVec.ofNat 8 (commandCode .installCartridge) :: BitVec.ofNat 8 k.val :: pos ::
        be 6 capacity) k (withRequests s rest) = (code, withRequests s rest)) : RefusedWith .installCartridge s rest tag code :=
      command_refuses (run := fun body => onIndex (installCommand body) body) hargs h rfl ((hix _).trans hb)
    have haccept {t : State} (hb : installCommand (BitVec.ofNat 8 (commandCode .installCartridge) :: BitVec.ofNat 8 k.val :: pos ::
        be 6 capacity) k (withRequests s rest) = (.ok, withRequests t rest)) : AcceptedAs .installCartridge s rest tag t :=
      command_accepts (run := fun body => onIndex (installCommand body) body) hargs h rfl ((hix _).trans hb)
    refine ⟨fun hnone => hrefuse (installCommand_unloaded (s := withRequests s rest) hnone), fun c hc => ?_⟩
    have hrun := fun a b => installCommand_eq (s := withRequests s rest) (a := a) (b := b) (pos := pos) hc hlt
    refine ⟨fun hbad => hrefuse ?_, fun isA hpos hne => ?_⟩
    · rw [hrun]
      rcases hbad with ⟨h1, h2⟩ | rfl
      · rw [position?_none h1 h2]
      · cases position? pos.toNat <;> rfl
    · have hrunAt (a b : Byte) : installCommand (a :: b :: pos :: be 6 capacity) k (withRequests s rest) =
          installAt k c isA capacity (withRequests s rest) := by
        rw [hrun, position?_byte hpos,
          within_eq_some.mpr ⟨⟨Nat.one_le_iff_ne_zero.mpr hne, Nat.le_of_lt_succ hlt⟩, rfl⟩]
      refine ⟨fun hbusy => hrefuse ((hrunAt _ _).trans (installAt_busy (s := withRequests s rest) hbusy)), fun hfree => ?_⟩
      have hat := fun a b => (hrunAt a b).trans (installAt_free (s := withRequests s rest) hfree)
      refine ⟨fun hbound => hrefuse ((hat _ _).trans (if_pos (chainUnbound_iff (s := withRequests s rest).mpr hbound))),
        fun hbound hlead => haccept ?_, fun hbound hlead => haccept ?_⟩
      · refine (hat _ _).trans ((if_neg (chainUnbound_iff (s := withRequests s rest).not.mpr (not_not_intro hbound))).trans ?_)
        exact congrArg _ (if_pos hlead)
      · refine (hat _ _).trans ((if_neg (chainUnbound_iff (s := withRequests s rest).not.mpr (not_not_intro hbound))).trans ?_)
        refine congrArg _ ((if_neg hlead).trans ?_)
        exact ownerRequest_withRequests (s := s.setChain k
          { setPos (s.chain k) isA { state := .lead, capacity := capacity } with run := 0 }) ..
  case remove =>
    have hix (body : List Byte) := onIndex_eq (n := 4) (s := withRequests s rest) (by decide) (removeCommand body) k
      (BitVec.ofNat 8 (commandCode .removeCartridge)) [pos]
    have hrefuse {code : Code} (hb : removeCommand [BitVec.ofNat 8 (commandCode .removeCartridge), BitVec.ofNat 8 k.val, pos] k
        (withRequests s rest) = (code, withRequests s rest)) : RefusedWith .removeCartridge s rest tag code :=
      command_refuses (args := [BitVec.ofNat 8 k.val, pos]) (run := fun body => onIndex (removeCommand body) body) rfl h rfl ((hix _).trans hb)
    refine ⟨fun hnone => hrefuse (removeCommand_unloaded (s := withRequests s rest) hnone), fun hc h1 h2 => hrefuse ?_,
      fun isA hc hpos => ?_⟩
    · rw [removeCommand_loaded (s := withRequests s rest) hc, position?_none h1 h2]
    · have hat : removeCommand [BitVec.ofNat 8 (commandCode .removeCartridge), BitVec.ofNat 8 k.val, pos] k (withRequests s rest) =
          removeAt k isA (withRequests s rest) := by
        rw [removeCommand_loaded (s := withRequests s rest) hc, position?_byte hpos]
      have hstate : posOf ((withRequests s rest).chain k) isA = posOf (s.chain k) isA := rfl
      refine ⟨fun hlead => hrefuse ?_, fun hempty => hrefuse ?_, fun hheld =>
        command_accepts (args := [BitVec.ofNat 8 k.val, pos]) (run := fun body => onIndex (removeCommand body) body) rfl h rfl
          ((hix _).trans ?_)⟩
      · rw [hat, removeAt, hstate, hlead]; rfl
      · rw [hat, removeAt, hstate, hempty]; rfl
      · rw [hat, removeAt, hstate]
        rcases hheld with hst | hst
        · rw [hst]; rfl
        · rw [hst]; rfl

end Sys2Proof.Machine
end


section
/-! The COMMANDs of tanks, of the clock and the classes, and PASS_SET: O25 to O27. -/

namespace Sys2Proof.Machine

variable {s : State} {rest : List Request} {tag : Byte} {t : TankIx}

/-! ### Tanks -/

section Tanks

variable {c : TankCfg}

/-- R151: the checks of a start that answer BAD_BINDING. -/
theorem tankUnbound_iff :
    tankUnbound s c = true ↔
      ¬ (OfKind s c.levelPoint .level ∧ OfKind s c.silverPoint .silver ∧ OfKind s c.phPoint .ph ∧ OfKind s c.outletPoint .flow ∧
        (s.actuator c.inlet.act).cfg ≠ none ∧ (s.actuator c.rework.act).cfg ≠ none ∧
        ∃ x, (s.actuator c.drain.act).cfg = some x ∧ x.safe ≠ c.drain.opened) := by
  have hdrain : (∃ x, (s.actuator c.drain.act).cfg = some x ∧ x.safe ≠ c.drain.opened) ↔
      (s.actuator c.drain.act).cfg ≠ none ∧ ¬ drainSafeOpen s c = true := by
    rw [drainSafeOpen_iff]
    cases (s.actuator c.drain.act).cfg <;> simp
  rw [hdrain]
  simp only [tankUnbound, Bool.or_eq_true, Bool.not_eq_true', ← Bool.not_eq_true, isKind_iff, Option.isNone_iff_eq_none]
  tauto

theorem startTank_unloaded (h : (s.tank t).cfg = none) : startTank t s = (.notLoaded, s) := by rw [startTank, h]; rfl

theorem startTank_loaded (h : (s.tank t).cfg = some c) :
    startTank t s =
      if (s.tank t).state ≠ .idle then (.busy, s)
      else if tankUnbound s c then (.badBinding, s)
      else if counterTaken s c.outletPoint (.tank t) then (.conflict, s)
      else (.ok, tankGo t .filling s) := by
  rw [startTank, h]; rfl

theorem startTank_idle (h : (s.tank t).cfg = some c) (hidle : (s.tank t).state = .idle) :
    startTank t s =
      if tankUnbound s c then (.badBinding, s)
      else if counterTaken s c.outletPoint (.tank t) then (.conflict, s)
      else (.ok, tankGo t .filling s) :=
  (startTank_loaded h).trans (if_neg (not_not_intro hidle))

/-- R152: the state in which a tank that goes to IDLE requests its valves. -/
def idledTank (t : TankIx) (s : State) : State :=
  { s.setTank t
      { s.tank t with state := .idle, dwell := none, test := none, silverSamples := 0, phSamples := 0, deferred := false } with
    disch := { s.disch with queue := s.disch.queue.filter (· ≠ t) } }

theorem idleTank_eq (t : TankIx) : idleTank t s = tankRequest t (idledTank t s) := by
  unfold idleTank tankGo
  have htank (x : Tank) (d : Discharge) : ((s.setTank t x).setDisch d).tank t = x := State.setTank_tank_self ..
  have hset (x y : Tank) (d : Discharge) : ((s.setTank t x).setDisch d).setTank t y = (s.setTank t y).setDisch d := by
    rw [State.setDisch, State.setTank]
    simp [State.setTank, State.setDisch]
  dsimp only
  rw [htank, hset]
  rfl

theorem stopTank_unloaded (h : (s.tank t).cfg = none) : stopTank t s = (.notLoaded, s) := if_pos (by rw [h]; rfl)

theorem stopTank_busy (h : (s.tank t).cfg ≠ none) (hst : (s.tank t).state = .releasing ∨ (s.tank t).state = .rework) :
    stopTank t s = (.busy, s) := by
  rw [stopTank, if_neg (Option.isNone_iff_eq_none.not.mpr h)]
  rcases hst with hst | hst
  · rw [hst]; rfl
  · rw [hst]; rfl

theorem stopTank_idle (h : (s.tank t).cfg ≠ none) (hst : (s.tank t).state = .idle) : stopTank t s = (.ok, s) := by
  rw [stopTank, if_neg (Option.isNone_iff_eq_none.not.mpr h), hst]; rfl

theorem stopTank_running (h : (s.tank t).cfg ≠ none) (hrel : (s.tank t).state ≠ .releasing) (hrew : (s.tank t).state ≠ .rework)
    (hidle : (s.tank t).state ≠ .idle) : stopTank t s = (.ok, tankRequest t (idledTank t s)) := by
  rw [stopTank, if_neg (Option.isNone_iff_eq_none.not.mpr h), idleTank_eq]
  split
  · next hst => exact absurd hst hrel
  · next hst => exact absurd hst hrew
  · next hst => exact absurd hst hidle
  all_goals rfl

/-- R155, R156: a fill that closes with a dwell of 0 goes to TESTING. -/
theorem closeOfFill_testing (h : c.dwell = 0) :
    closeOfFill t c s = tankRequest t (s.setTank t (testingTank c (closedTank t (s.tank t)))) := by
  simp only [closeOfFill, if_pos h, toTesting, tankGo, openBatch, State.setTank_tank_self, State.setTank_setTank]
  rfl

/-- R155: a fill that closes with a dwell goes to MIXING. -/
theorem closeOfFill_mixing (h : c.dwell ≠ 0) :
    closeOfFill t c s =
      tankRequest t (s.setTank t { closedTank t (s.tank t) with state := .mixing, dwell := some (c.dwell * 1000) }) := by
  simp only [closeOfFill, if_neg h, tankGo, openBatch, State.setTank_tank_self, State.setTank_setTank]
  rfl

theorem atLowLevel_iff : atLowLevel s c = true ↔ usable (s.point c.levelPoint) = true ∧ (s.point c.levelPoint).value ≤ c.low := by
  simp [atLowLevel]

theorem closeFillCommand_unloaded (h : (s.tank t).cfg = none) : closeFillCommand t s = (.notLoaded, s) := by
  rw [closeFillCommand, h]; rfl

theorem closeFillCommand_busy (h : (s.tank t).cfg = some c)
    (hbusy : (s.tank t).state ≠ .filling ∨ (usable (s.point c.levelPoint) = true ∧ (s.point c.levelPoint).value ≤ c.low)) :
    closeFillCommand t s = (.busy, s) := by
  rw [closeFillCommand, h]
  by_cases hst : (s.tank t).state = .filling
  · exact (if_neg (not_not_intro hst)).trans (if_pos (atLowLevel_iff.mpr (hbusy.resolve_left (not_not_intro hst))))
  · exact if_pos hst

theorem closeFillCommand_filling (h : (s.tank t).cfg = some c) (hst : (s.tank t).state = .filling)
    (hlow : ¬ (usable (s.point c.levelPoint) = true ∧ (s.point c.levelPoint).value ≤ c.low)) :
    closeFillCommand t s = (.ok, closeOfFill t c s) := by
  rw [closeFillCommand, h]
  exact (if_neg (not_not_intro hst)).trans (if_neg (atLowLevel_iff.not.mpr hlow))

end Tanks

/-- Settles O25, by the checks of the three commands in their order. -/
theorem tankCommandsMoveTheTank : Obligations.TankCommandsMoveTheTank := by
  intro s t tag rest
  refine ⟨fun h => ⟨fun hnone => ?_, fun c hc => ⟨fun hbusy => ?_, fun hidle hbound => ?_, fun hidle hbound htaken => ?_,
    fun hidle hbound hfree => ?_⟩⟩, fun h => ⟨fun hnone => ?_, fun hc => ⟨fun hst => ?_, fun hidle => ?_, fun hrel hrew hidle => ?_⟩⟩,
    fun h => ⟨fun hnone => ?_, fun c hc => ⟨fun hbusy => ?_, fun hst hlow => ⟨fun hdwell => ?_, fun hdwell => ?_⟩⟩⟩⟩
  · exact indexed_refuses (by decide) rfl h rfl (startTank_unloaded (s := withRequests s rest) hnone)
  · exact indexed_refuses (by decide) rfl h rfl ((startTank_loaded (s := withRequests s rest) hc).trans (if_pos hbusy))
  · exact indexed_refuses (by decide) rfl h rfl ((startTank_idle (s := withRequests s rest) hc hidle).trans
      (if_pos (tankUnbound_iff (s := withRequests s rest).mpr hbound)))
  · exact indexed_refuses (by decide) rfl h rfl ((startTank_idle (s := withRequests s rest) hc hidle).trans
      ((if_neg (tankUnbound_iff (s := withRequests s rest).not.mpr (not_not_intro hbound))).trans
        (if_pos (counterTaken_iff (s := withRequests s rest).mpr htaken))))
  · refine indexed_accepts (by decide) rfl h rfl ((startTank_idle (s := withRequests s rest) hc hidle).trans
      ((if_neg (tankUnbound_iff (s := withRequests s rest).not.mpr (not_not_intro hbound))).trans
        ((if_neg (counterTaken_iff (s := withRequests s rest).not.mpr hfree)).trans (congrArg _ ?_))))
    exact tankRequest_withRequests (s := s.setTank t { s.tank t with state := .filling }) t
  · exact indexed_refuses (by decide) rfl h rfl (stopTank_unloaded (s := withRequests s rest) hnone)
  · exact indexed_refuses (by decide) rfl h rfl (stopTank_busy (s := withRequests s rest) hc hst)
  · exact indexed_refuses (by decide) rfl h rfl (stopTank_idle (s := withRequests s rest) hc hidle)
  · exact indexed_accepts (by decide) rfl h rfl ((stopTank_running (s := withRequests s rest) hc hrel hrew hidle).trans
      (congrArg _ (tankRequest_withRequests (s := idledTank t s) t)))
  · exact indexed_refuses (by decide) rfl h rfl (closeFillCommand_unloaded (s := withRequests s rest) hnone)
  · exact indexed_refuses (by decide) rfl h rfl (closeFillCommand_busy (s := withRequests s rest) hc hbusy)
  · exact indexed_accepts (by decide) rfl h rfl ((closeFillCommand_filling (s := withRequests s rest) hc hst hlow).trans
      (congrArg _ ((closeOfFill_mixing hdwell).trans (tankRequest_withRequests (s := s.setTank t _) t))))
  · exact indexed_accepts (by decide) rfl h rfl ((closeFillCommand_filling (s := withRequests s rest) hc hst hlow).trans
      (congrArg _ ((closeOfFill_testing hdwell).trans (tankRequest_withRequests (s := s.setTank t _) t))))

/-! ### The clock and the classes -/

theorem setClockCommand_eq {a : Byte} {day sec : Nat} (hday : day < 65536) (hsec : sec < 16777216) :
    setClockCommand (a :: (be 2 day ++ be 3 sec)) s =
      if 86399 < sec then (.badValue, s)
      else (.ok, recomputeDay (s.setDisch { s.disch with clock := some { day := day, sec := sec } })) := by
  have hd : fieldAt (a :: (be 2 day ++ be 3 sec)) 1 2 = day := by
    have hshift : fieldAt (a :: (be 2 day ++ be 3 sec)) 1 2 = fieldAt (be 2 day ++ be 3 sec) 0 2 := rfl
    rw [hshift, fieldAt_be_append]
    exact Nat.mod_eq_of_lt hday
  have hs : fieldAt (a :: (be 2 day ++ be 3 sec)) 3 3 = sec := by
    have hshift : fieldAt (a :: (be 2 day ++ be 3 sec)) 3 3 = fieldAt (be 2 day ++ be 3 sec) 2 3 := rfl
    rw [hshift, fieldAt_be_skip (by decide), fieldAt_be]
    exact Nat.mod_eq_of_lt hsec
  simp only [setClockCommand, hd, hs]
  rfl

/-- R169: a permit day that was none, or whose permit or clock is missing, is taken without a rollover. -/
theorem recomputeDay_fresh (h : s.disch.permit = none ∨ s.disch.permitDay = none) :
    recomputeDay s = s.setDisch { s.disch with permitDay := dayOf s.disch.permit s.disch.clock } := by
  unfold recomputeDay
  split
  · next old new hold hnew =>
    rcases h with h | h
    · rw [h] at hnew
      simp [dayOf] at hnew
    · rw [h] at hold
      cases hold
  · rfl

/-- R169: the day before, on the clock's circle of 65536 days. -/
theorem dayBefore_eq {day : Nat} (h : day < 65536) : (day + 65535) % 65536 = if day = 0 then 65535 else day - 1 := by
  split <;> omega

theorem recomputeDay_same {old : Nat} (h : s.disch.permitDay = some old) (hnew : dayOf s.disch.permit s.disch.clock = some old) :
    recomputeDay s = s := by
  rw [recomputeDay, h, hnew]
  exact if_pos rfl

theorem recomputeDay_rollover {old new : Nat} (h : s.disch.permitDay = some old)
    (hnew : dayOf s.disch.permit s.disch.clock = some new) (hne : old ≠ new) : recomputeDay s = rollover old new s := by
  rw [recomputeDay, h, hnew]
  exact if_neg hne

theorem capOf_of_some {p : PermitCfg} (h : s.disch.permit = some p) : capOf s = p.cap := by rw [capOf, h]

/-- R169: the DAY report of the day that ends, then the fresh counters of the new one. -/
theorem rollover_eq (old new : Nat) :
    rollover old new s =
      { s with
        reports := s.reports.raise (.day old s.disch.consumed (capOf s) s.disch.released s.disch.peak s.clock)
        disch :=
          { s.disch with
            consumed := 0, released := 0, peak := 0, lowAlerted := false, exhaustedAlerted := false, permitDay := some new } } := rfl

theorem maskCommand_eq {held : Bool} {a b : Byte} :
    maskCommand held [a, b] s =
      match index? 4 b.toNat with
      | none => (.badValue, s)
      | some c => (.ok, s.setReports { s.reports with masks := s.reports.masks.set c held }) := by
  rw [maskCommand, fieldAt_second]
  rfl

/-- R185: a command that holds or frees a class, in all its answers. -/
theorem mask_command {cmd : Command} {row : Instr} {held : Bool} {b : Byte} (hlen : argLength cmd = 1)
    (hc : exec row s = commandRequest cmd (maskCommand held) s) (h : Executing s (commandOf cmd [b] tag) rest) :
    (4 ≤ b.toNat → RefusedWith row s rest tag .badValue) ∧
      ∀ c : Sys2Proof.Class, b.toNat = c.val →
        AcceptedAs row s rest tag { s with reports := { s.reports with masks := s.reports.masks.set c held } } := by
  refine ⟨fun hbad => command_refuses (args := [b]) hlen.symm h hc ?_, fun c hok => command_accepts (args := [b]) hlen.symm h hc ?_⟩
  · rw [maskCommand_eq, index?_of_le hbad]
  · rw [maskCommand_eq, hok, index?_val]
    rfl

/-- Settles O26: the clock by whether the permit day rolls over, and the two mask commands at once. -/
theorem clockAndMaskCommands : Obligations.ClockAndMaskCommands := by
  intro s tag rest
  refine ⟨fun day sec hday hsec h => ?clock, fun cmd row held b hrow h => ?mask⟩
  case mask =>
    obtain ⟨rfl, rfl, rfl⟩ | ⟨rfl, rfl, rfl⟩ := hrow
    · exact mask_command rfl rfl h
    · exact mask_command rfl rfl h
  case clock =>
    intro now
    have hargs : (be 2 day ++ be 3 sec).length = argLength .setClock := by simp [argLength]
    have hrun := setClockCommand_eq (s := withRequests s rest) (a := BitVec.ofNat 8 (commandCode .setClock)) hday hsec
    refine ⟨fun hbad => command_refuses hargs h rfl (hrun.trans (if_pos hbad)), fun hok => ?_⟩
    have hset := hrun.trans (if_neg (not_lt.mpr hok))
    refine ⟨fun hfresh => command_accepts hargs h rfl (hset.trans (congrArg _ (recomputeDay_fresh hfresh))),
      fun p old hp hold => ?_⟩
    intro new
    have hday' : dayOf s.disch.permit (some now) = some new := by
      rw [hp]
      simp only [dayOf, new, now, dayBefore_eq hday]
    refine ⟨fun hsame => ?_, fun hdiffer => ?_⟩
    · refine command_accepts hargs h rfl (hset.trans (congrArg _ ?_))
      exact recomputeDay_same (s := (withRequests s rest).setDisch _) hold (hday'.trans (congrArg some hsame))
    · refine command_accepts hargs h rfl (hset.trans (congrArg _ ?_))
      have hcap : capOf (s.setDisch { s.disch with clock := some now }) = p.cap := capOf_of_some hp
      refine (recomputeDay_rollover (s := (withRequests s rest).setDisch { s.disch with clock := some now }) hold hday'
        (Ne.symm hdiffer)).trans ?_
      rw [rollover_eq, ← hcap]
      rfl

/-! ### Pass-through sets -/

section PassSet

variable {n : NodeIx} {ch : Channel} {v : Nat}

/-- R90: the arguments of a PASS_SET are read when each is in its range. -/
theorem passArgs?_eq_some {a node chan : Byte} {w : Nat} (hv : v < 65536) :
    passArgs? (a :: ([node, chan] ++ be 2 v)) = some (n, ch, w) ↔
      node.toNat = n.val + 1 ∧ chan.toNat = ch.val ∧ v ≤ 1000 ∧ w = v := by
  have hnode : fieldAt (a :: ([node, chan] ++ be 2 v)) 1 1 = node.toNat := fieldAt_second ..
  have hchan : fieldAt (a :: ([node, chan] ++ be 2 v)) 2 1 = chan.toNat := by simp [fieldAt, beVal_one]
  have hval : fieldAt (a :: ([node, chan] ++ be 2 v)) 3 2 = v := by
    have hshift : fieldAt (a :: ([node, chan] ++ be 2 v)) 3 2 = fieldAt (be 2 v) 0 2 := rfl
    rw [hshift, fieldAt_be]
    exact Nat.mod_eq_of_lt hv
  simp only [passArgs?, Option.bind_eq_bind, Option.bind_eq_some_iff, node?_eq_some, index?_eq_some, within_eq_some, hnode, hchan, hval]
  constructor
  · rintro ⟨n, hn, ch, hch, x, ⟨⟨-, hle⟩, hx⟩, h⟩
    cases h
    exact ⟨hn, hch, hx.trans_le hle, hx.symm⟩
  · rintro ⟨hn, hch, hle, rfl⟩
    exact ⟨n, hn, ch, hch, w, ⟨⟨Nat.zero_le _, hle⟩, rfl⟩, rfl⟩

theorem channelOwned_iff : channelOwned s n ch = true ↔ ∃ a x, (s.actuator a).cfg = some x ∧ x.binding = .field n ch := by
  simp only [channelOwned, List.any_eq_true, Option.any_eq_true, decide_eq_true_eq]
  constructor
  · rintro ⟨x, hx, c, hc, hbind⟩
    obtain ⟨i, hi, rfl⟩ := Vector.mem_iff_getElem.mp (Vector.mem_toList_iff.mp hx)
    exact ⟨⟨i, hi⟩, c, hc, hbind⟩
  · rintro ⟨a, c, hc, hbind⟩
    exact ⟨s.actuator a, Vector.mem_toList_iff.mpr (Vector.getElem_mem a.isLt), c, hc, hbind⟩

theorem passCheck_owned (h : ∃ a x, (s.actuator a).cfg = some x ∧ x.binding = .field n ch) : passCheck s n ch v = .error .owned :=
  if_pos (channelOwned_iff.mpr h)

theorem passCheck_fallback (h : ¬ ∃ a x, (s.actuator a).cfg = some x ∧ x.binding = .field n ch) (hf : s.port.fallback = true) :
    passCheck s n ch v = .error .fallback :=
  (if_neg (channelOwned_iff.not.mpr h)).trans (if_pos hf)

theorem passCheck_held (h : ¬ ∃ a x, (s.actuator a).cfg = some x ∧ x.binding = .field n ch) (hf : s.port.fallback = false)
    (hh : s.port.safeHold = true) : passCheck s n ch v = .error .held :=
  (if_neg (channelOwned_iff.not.mpr h)).trans ((if_neg (Bool.eq_false_iff.mp hf)).trans (if_pos hh))

/-- R90: what is left of the checks of a set of a free channel in neither condition. -/
theorem passCheck_free (h : ¬ ∃ a x, (s.actuator a).cfg = some x ∧ x.binding = .field n ch) (hf : s.port.fallback = false)
    (hh : s.port.safeHold = false) :
    passCheck s n ch v =
      match interlockCheck s n ch v with
      | none => .error .interlocked
      | some r => if 4 ≤ s.line.passQ.length then .error .busy else .ok r :=
  (if_neg (channelOwned_iff.not.mpr h)).trans ((if_neg (Bool.eq_false_iff.mp hf)).trans (if_neg (Bool.eq_false_iff.mp hh)))

/-- R91: a set that no interlock bars passes with a value. -/
theorem interlockCheck_of_not_barred (h : ¬ Barred s n ch) :
    ∃ w, PassesAs s n ch v w ∧ interlockCheck s n ch v = some (w, decide (w < v)) := by
  cases hcheck : interlockCheck s n ch v with
  | none => exact absurd (interlockCheck_none.mp hcheck) h
  | some r =>
    obtain ⟨w, clamped⟩ := r
    obtain ⟨hpass, rfl⟩ := interlockCheck_some.mp hcheck
    exact ⟨w, hpass, rfl⟩

theorem exec_passSet {node chan : Byte} (h : Executing s (commandOf .passSet ([node, chan] ++ be 2 v) tag) rest) :
    exec .passSet s =
      .next (runPassSet (commandOf .passSet ([node, chan] ++ be 2 v) tag) (withRequests s rest)) := by
  refine (live_of_not_inReset h.1 _).trans (congrArg _ (takeRequest_executing h (isCommand_commandOf _ _ _ ?_) _))
  simp [argLength]

theorem runPassSet_none {r : Request} (h : passArgs? r.body = none) : runPassSet r s = answer r.tag .badValue s := by
  rw [runPassSet, h]

theorem runPassSet_error {r : Request} {code : Code} (h : passArgs? r.body = some (n, ch, v)) (hc : passCheck s n ch v = .error code) :
    runPassSet r s = answer r.tag code s := by
  simp only [runPassSet, h, hc]

theorem runPassSet_ok {r : Request} {w : Nat × Bool} (h : passArgs? r.body = some (n, ch, v)) (hc : passCheck s n ch v = .ok w) :
    runPassSet r s = joinPass r.tag n ch w s := by
  simp only [runPassSet, h, hc]

end PassSet

/-- Settles O27, by the five checks in their order. -/
theorem passSetsAreCheckedAndQueued : Obligations.PassSetsAreCheckedAndQueued := by
  intro s node chan v tag rest hv h
  have hexec := exec_passSet h
  refine ⟨fun hbad => hexec.trans (congrArg _ (runPassSet_none ?_)), fun n ch hnode hchan hle => ?_⟩
  · refine Option.eq_none_iff_forall_ne_some.mpr fun (n, ch, w) hargs => ?_
    obtain ⟨hn, hc, hle, -⟩ := (passArgs?_eq_some hv).mp hargs
    rcases hbad with rfl | hbad
    · simp at hn
    · omega
  · have hargs : passArgs? (commandOf .passSet ([node, chan] ++ be 2 v) tag).body = some (n, ch, v) :=
      (passArgs?_eq_some hv).mpr ⟨hnode, hchan, hle, rfl⟩
    intro owned
    have hrefuse {code : Code} (hc : passCheck (withRequests s rest) n ch v = .error code) : RefusedWith .passSet s rest tag code :=
      hexec.trans (congrArg _ (runPassSet_error hargs hc))
    refine ⟨fun howned => hrefuse (passCheck_owned (s := withRequests s rest) howned),
      fun hfree hfall => hrefuse (passCheck_fallback (s := withRequests s rest) hfree hfall),
      fun hfree hfall hheld => hrefuse (passCheck_held (s := withRequests s rest) hfree hfall hheld), fun hfree hfall hheld => ?_⟩
    have hcheck := passCheck_free (s := withRequests s rest) (v := v) hfree hfall hheld
    refine ⟨fun hbarred => hrefuse ?_, fun hpass hfull => hrefuse ?_, fun hpass hroom => ?_⟩
    · rw [hcheck, interlockCheck_none (s := withRequests s rest).mpr hbarred]
    · obtain ⟨w, -, hw⟩ := interlockCheck_of_not_barred (s := withRequests s rest) (v := v) hpass
      rw [hcheck, hw]
      exact if_pos hfull
    · obtain ⟨w, hpasses, hw⟩ := interlockCheck_of_not_barred (s := withRequests s rest) (v := v) hpass
      refine ⟨w, hpasses, hexec.trans (congrArg _ (runPassSet_ok hargs (w := (w, decide (w < v))) ?_))⟩
      rw [hcheck, hw]
      exact if_neg (Nat.not_le.mpr hroom)

end Sys2Proof.Machine
end


section
/-! ALL_SAFE, RESUME, KEEPALIVE and RESET_PART, and the owner requests that they cause: O28 to O30. -/

namespace Sys2Proof.Machine

variable {s : State} {rest : List Request} {tag : Byte}

/-! ### Raising an ALL-SAFE -/

theorem abandon_eq (x : Exchange) : abandon x s = afterAbandon x s := by
  unfold abandon afterAbandon
  cases x.job with
  | poll => rfl
  | control => rfl
  | pass => rfl

theorem abandon_setLine_allSafePending (x : Exchange) (b : Bool) :
    abandon x (s.setLine { s.line with allSafePending := b }) =
      (afterAbandon x s).setLine { (afterAbandon x s).line with allSafePending := b } := by
  rw [abandon_eq]
  unfold afterAbandon
  cases x.job with
  | poll i p rewritten => cases rewritten <;> rfl
  | control a void => cases void <;> rfl
  | pass => rfl

theorem raiseAllSafe_eq : raiseAllSafe s = afterRaise s := by
  unfold raiseAllSafe afterRaise
  simp only [State.setLine_line, abandon_setLine_allSafePending]
  cases s.line.hold with
  | exchange x => cases x.phase <;> rfl
  | _ => rfl

theorem abandon_withRequests (x : Exchange) : abandon x (withRequests s rest) = withRequests (abandon x s) rest := by
  unfold abandon
  cases x.job with
  | poll i p rewritten => cases rewritten <;> rfl
  | control a void => cases void <;> rfl
  | pass => rfl

theorem raiseAllSafe_withRequests : raiseAllSafe (withRequests s rest) = withRequests (raiseAllSafe s) rest := by
  have hline (s : State) : (withRequests s rest).line = s.line := rfl
  have hpend (l : FieldLine) : (withRequests s rest).setLine l = withRequests (s.setLine l) rest := rfl
  have hhold (h : Hold) (s : State) : setHold h (withRequests s rest) = withRequests (setHold h s) rest := rfl
  unfold raiseAllSafe
  simp only [hline, hpend, State.setLine_line, abandon_withRequests, hhold]
  split
  · split <;> rfl
  · rfl

/-- R69, R71, R72: raising an ALL-SAFE touches the line, but not its pass-through queue, the actuators and the results. -/
theorem afterRaise_touches (s : State) :
    ∃ line acts results, afterRaise s = { s with line := line, actuators := acts, port := { s.port with results := results } } ∧
        line.passQ = s.line.passQ := by
  have hpend : ∃ line acts results,
      { s with line := { s.line with allSafePending := true } } =
          { s with line := line, actuators := acts, port := { s.port with results := results } } ∧
        line.passQ = s.line.passQ :=
    ⟨_, s.actuators, s.port.results, rfl, rfl⟩
  have habandon (x : Exchange) (h : Hold) : ∃ line acts results,
      { afterAbandon x s with line := { (afterAbandon x s).line with allSafePending := true, hold := h } } =
          { s with line := line, actuators := acts, port := { s.port with results := results } } ∧
        line.passQ = s.line.passQ := by
    unfold afterAbandon
    cases x.job with
    | poll i p rewritten => cases rewritten <;> exact ⟨_, s.actuators, s.port.results, rfl, rfl⟩
    | control a void => cases void <;> exact ⟨_, _, s.port.results, rfl, rfl⟩
    | pass => exact ⟨_, s.actuators, _, rfl, rfl⟩
  unfold afterRaise
  split
  · next x _ =>
    cases x.phase with
    | sending => exact hpend
    | window => exact habandon x .quiet
    | holdoff => exact habandon x .none
    | resend => exact habandon x .none
  · exact hpend

/-! ### The actuators at entry into SAFE-HOLD -/

theorem safeEntry_eq (a : ActIx) : safeEntry a s = safeApplied s a := by
  unfold safeEntry safeApplied
  dsimp only
  cases hc : (s.actuator a).cfg with
  | none => rfl
  | some c =>
    obtain ⟨binding, safe⟩ := c
    cases binding with
    | pin p =>
      dsimp only
      rw [← applyPin_desired]
      simp only [hc]
    | field n ch =>
      dsimp only
      by_cases hconf : (s.actuator a).confirmed = some safe
      · cases hst : (s.actuator a).state <;> simp [hconf, withdraw_eq, settleIdle_eq]
      · simp [hconf]

theorem actuatorsSafe_eq : actuatorsSafe s = (List.finRange 16).foldl safeApplied s := by
  simp only [actuatorsSafe, safeEntry_eq]

theorem appliedTo_touches (s : State) (a : ActIx) (p : PinIx) (v : Nat) :
    ∃ acts pins reports, appliedTo s a p v = { s with actuators := acts, pins := pins, reports := reports } := by
  unfold appliedTo
  split
  · exact ⟨_, _, s.reports, rfl⟩
  · exact ⟨_, s.pins, _, rfl⟩

theorem safeApplied_touches (s : State) (a : ActIx) :
    ∃ acts pins reports queue,
      safeApplied s a = { s with actuators := acts, pins := pins, reports := reports, line := { s.line with controlQ := queue } } := by
  unfold safeApplied
  split
  · exact ⟨s.actuators, s.pins, s.reports, s.line.controlQ, rfl⟩
  · obtain ⟨acts, pins, reports, h⟩ := appliedTo_touches s a _ _
    exact ⟨acts, pins, reports, s.line.controlQ, h⟩
  · dsimp only
    split_ifs
    · exact ⟨_, s.pins, s.reports, _, rfl⟩
    · exact ⟨_, s.pins, s.reports, s.line.controlQ, rfl⟩
    · exact ⟨_, s.pins, s.reports, s.line.controlQ, rfl⟩

theorem foldl_safeApplied_touches (l : List ActIx) (s : State) :
    ∃ acts pins reports queue,
      l.foldl safeApplied s = { s with actuators := acts, pins := pins, reports := reports, line := { s.line with controlQ := queue } } := by
  induction l generalizing s with
  | nil => exact ⟨s.actuators, s.pins, s.reports, s.line.controlQ, rfl⟩
  | cons a l ih =>
    obtain ⟨acts, pins, reports, queue, h⟩ := safeApplied_touches s a
    obtain ⟨acts', pins', reports', queue', h'⟩ := ih (safeApplied s a)
    exact ⟨acts', pins', reports', queue', by rw [List.foldl_cons, h', h]⟩

theorem safeApplied_withRequests (a : ActIx) : safeApplied (withRequests s rest) a = withRequests (safeApplied s a) rest := by
  have hact : (withRequests s rest).actuator a = s.actuator a := rfl
  unfold safeApplied
  rw [hact]
  split
  · rfl
  · exact appliedTo_withRequests ..
  · dsimp only
    split_ifs <;> rfl

theorem foldl_safeApplied_withRequests (l : List ActIx) :
    l.foldl safeApplied (withRequests s rest) = withRequests (l.foldl safeApplied s) rest := by
  induction l generalizing s with
  | nil => rfl
  | cons a l ih => rw [List.foldl_cons, List.foldl_cons, safeApplied_withRequests, ih]

/-! ### Entry into SAFE-HOLD -/

/-- R69 to R72, R85, R199: the part in SAFE-HOLD with an ALL-SAFE raised and every actuator at its safe value. -/
def safeActuators (s : State) : State := (List.finRange 16).foldl safeApplied (held (afterRaise s))

/-- R66, R128, R199: then the pass-through queue is emptied and every RUN cell stopped. -/
def safeStopped (s : State) : State :=
  { safeActuators s with
    port :=
      { (safeActuators s).port with
        results := (safeActuators s).port.results ++ s.line.passQ.map fun e => passResultOf e.tag .held [] }
    line := { (safeActuators s).line with passQ := [] }
    cells := s.cells.map fun x => if x.state = .run then stoppedCell .idle x else x }

theorem safeActuators_touches (s : State) :
    ∃ line acts pins reports results, line.passQ = s.line.passQ ∧
      safeActuators s =
        { s with
          line := line, actuators := acts, pins := pins, reports := reports
          port := { s.port with results := results, safeHold := true } } := by
  obtain ⟨line, acts, results, h, hpass⟩ := afterRaise_touches s
  obtain ⟨acts', pins, reports, queue, h'⟩ := foldl_safeApplied_touches (List.finRange 16) (held (afterRaise s))
  refine ⟨{ line with controlQ := queue }, acts', pins, reports, results, hpass, ?_⟩
  rw [safeActuators, h', h]
  rfl

theorem safeActuators_withRequests : safeActuators (withRequests s rest) = withRequests (safeActuators s) rest := by
  rw [safeActuators, ← raiseAllSafe_eq, raiseAllSafe_withRequests, raiseAllSafe_eq]
  exact foldl_safeApplied_withRequests (s := held (afterRaise s)) _

theorem enterSafeHold_stopped : enterSafeHold s = stopRelease .safeHold (safeStopped s) := by
  have hentry : enterSafeHold s = stopRelease .safeHold (cellsSafe (flushPass .held (safeActuators s))) := by
    rw [safeActuators, ← actuatorsSafe_eq, ← raiseAllSafe_eq, ← raiseAllSafe_held]
    rfl
  obtain ⟨line, acts, pins, reports, results, hpass, h⟩ := safeActuators_touches s
  have hqueue : (safeActuators s).line.passQ = s.line.passQ := by rw [h]; exact hpass
  have hcells : (safeActuators s).cells = s.cells := by rw [h]
  rw [hentry, flushPass_eq, hqueue, cellsSafe, eachOf_eq_map]
  dsimp only
  rw [hcells]
  rfl

theorem safeStopped_withRequests : safeStopped (withRequests s rest) = withRequests (safeStopped s) rest := by
  unfold safeStopped
  rw [safeActuators_withRequests]
  generalize safeActuators s = u
  rfl

/-- R77: in SAFE-HOLD the requests of a tank change nothing. -/
theorem ownerRequest_of_safeHold (h : s.port.safeHold = true) (a : ActIx) (v : Nat) : ownerRequest a v s = s := if_pos h

theorem tankRequest_of_safeHold (h : s.port.safeHold = true) (t : TankIx) : tankRequest t s = s := by
  unfold tankRequest
  split
  · rfl
  · simp only [ownerRequest_of_safeHold h]

/-- R150, R179: a release that stops in SAFE-HOLD requests no valve. -/
theorem afterStop_of_safeHold (h : s.port.safeHold = true) (k : TankIx) (cause : Nat) :
    afterStop k cause s =
      { s.setTank k { s.tank k with state := .queued } with
        disch := { s.disch with queue := k :: s.disch.queue }
        reports := s.reports.raise (.alert .releaseStopped (.tank k) (stopFigures cause (s.tank k)) s.clock) } := by
  have hheld : ({ s.setTank k { s.tank k with state := .queued } with disch := { s.disch with queue := k :: s.disch.queue } } :
      State).port.safeHold = true := h
  unfold afterStop
  rw [tankRequest_of_safeHold hheld]
  rfl

theorem safeStopped_tanks (s : State) : (safeStopped s).tanks = s.tanks := by
  obtain ⟨line, acts, pins, reports, results, -, h⟩ := safeActuators_touches s
  rw [safeStopped, h]

theorem safeStopped_disch (s : State) : (safeStopped s).disch = s.disch := by
  obtain ⟨line, acts, pins, reports, results, -, h⟩ := safeActuators_touches s
  rw [safeStopped, h]

theorem safeStopped_safeHold (s : State) : (safeStopped s).port.safeHold = true := by
  obtain ⟨line, acts, pins, reports, results, -, h⟩ := safeActuators_touches s
  rw [safeStopped, h]

theorem stopRelease_safeStopped_of_none (h : releasingTank s = none) :
    stopRelease .safeHold (withRequests (safeStopped s) rest) = withRequests (safeStopped s) rest := by
  rw [← releasingTank_congr (safeStopped_tanks s)] at h
  revert h
  generalize safeStopped s = u
  exact fun h => stopRelease_of_none (s := withRequests u rest) h .safeHold

/-- R179: the release that SAFE-HOLD stops. -/
theorem stopRelease_safeStopped {k : TankIx} (hk : releasingTank s = some k) :
    stopRelease .safeHold (withRequests (safeStopped s) rest) =
      withRequests
        { safeStopped s with
          tanks := s.tanks.set k { s.tank k with state := .queued }
          disch := { s.disch with queue := k :: s.disch.queue }
          reports := (safeStopped s).reports.raise (.alert .releaseStopped (.tank k) (stopFigures 5 (s.tank k)) s.clock) } rest := by
  have htanks := safeStopped_tanks s
  have hdisch := safeStopped_disch s
  have hheld := safeStopped_safeHold s
  rw [State.tank, State.clock, ← htanks, ← hdisch]
  rw [← releasingTank_congr htanks] at hk
  revert hk hheld
  generalize safeStopped s = u
  intro hk hheld
  refine (stopRelease_of_some (s := withRequests u rest) (cause := .safeHold) hk nofun).trans ?_
  exact afterStop_of_safeHold (s := withRequests u rest) hheld k 5

theorem allSafeCommand_held {args : List Byte} (h : s.port.safeHold = true) : allSafeCommand args s = (.ok, s) :=
  congrArg (Prod.mk Code.ok) (if_pos h)

theorem allSafeCommand_free {args : List Byte} (h : s.port.safeHold = false) :
    allSafeCommand args s = (.ok, stopRelease .safeHold (safeStopped s)) :=
  congrArg (Prod.mk Code.ok) ((if_neg (Bool.eq_false_iff.mp h)).trans enterSafeHold_stopped)

/-- Settles O28: in SAFE-HOLD nothing; else the table of R199 in its order, and the stop of a release where there is one. -/
theorem allSafeEntersSafeHold : Obligations.AllSafeEntersSafeHold := by
  intro s tag rest h
  refine ⟨fun hheld => command_refuses (args := []) rfl h rfl (allSafeCommand_held (s := withRequests s rest) hheld), fun hfree => ?_⟩
  have hrun := allSafeCommand_free (s := withRequests s rest) (args := [BitVec.ofNat 8 (commandCode .allSafe)]) hfree
  rw [safeStopped_withRequests] at hrun
  have haccept {t : State} (ht : stopRelease .safeHold (withRequests (safeStopped s) rest) = withRequests t rest) :
      AcceptedAs .allSafe s rest tag t := command_accepts (args := []) rfl h rfl (hrun.trans (congrArg _ ht))
  have hnothing (hnone : releasingTank s = none) := haccept (stopRelease_safeStopped_of_none hnone)
  have hrelease (k : TankIx) (hk : releasingTank s = some k) := haccept (stopRelease_safeStopped hk)
  intro raised applied stopped
  have hstopped : safeStopped s = stopped := by
    have happlied : safeActuators s = applied := by
      unfold safeActuators
      rfl
    unfold safeStopped
    rw [happlied]
  rw [hstopped] at hnothing hrelease
  exact ⟨hnothing, hrelease⟩

/-! ### RESUME, KEEPALIVE and RESET_PART -/

theorem tanksRequest_eq : tanksRequest s = tankRequest 3 (tankRequest 2 (tankRequest 1 (tankRequest 0 s))) := rfl

theorem tanksRequest_withRequests : tanksRequest (withRequests s rest) = withRequests (tanksRequest s) rest := by
  simp only [tanksRequest_eq, tankRequest_withRequests]

theorem resumeCommand_eq {args : List Byte} : resumeCommand args s = (.ok, leaveSafeHold (leaveFallback s)) := rfl

theorem leaveFallback_of_not (h : s.port.fallback = false) : leaveFallback s = s := if_neg (Bool.eq_false_iff.mp h)

theorem leaveFallback_of (h : s.port.fallback = true) :
    leaveFallback s =
      { s with
        port := { s.port with fallback := false }
        reports := s.reports.raise (.alert .fallbackLeft .part [] s.clock) } :=
  if_pos h

theorem leaveSafeHold_of_not (h : s.port.safeHold = false) : leaveSafeHold s = s := if_neg (Bool.eq_false_iff.mp h)

theorem leaveSafeHold_of (h : s.port.safeHold = true) :
    leaveSafeHold s = tanksRequest { s with port := { s.port with safeHold := false } } := if_pos h

/-- R200: what FALLBACK leaves reads nothing of the request queue. -/
theorem leaveFallback_withRequests {left : State}
    (hfall : s.port.fallback = true →
      left = { s with
        port := { s.port with fallback := false }
        reports := s.reports.raise (.alert .fallbackLeft .part [] s.clock) })
    (hnot : s.port.fallback = false → left = s) : leaveFallback (withRequests s rest) = withRequests left rest := by
  cases hf : s.port.fallback with
  | true => rw [hfall hf]; exact leaveFallback_of (s := withRequests s rest) hf
  | false => rw [hnot hf]; exact leaveFallback_of_not (s := withRequests s rest) hf

theorem leftFallback_safeHold {left : State}
    (hfall : s.port.fallback = true →
      left = { s with
        port := { s.port with fallback := false }
        reports := s.reports.raise (.alert .fallbackLeft .part [] s.clock) })
    (hnot : s.port.fallback = false → left = s) : left.port.safeHold = s.port.safeHold := by
  cases hf : s.port.fallback with
  | true => rw [hfall hf]
  | false => rw [hnot hf]

/-- R194: a content of at most 237 bytes is one part. -/
theorem resultParts_short {code : Code} {origin : Origin} {bs : List Byte} (h : bs.length ≤ 237) (fuel n : Nat) :
    resultParts tag code origin fuel n bs = [{ tag, code, part := n, last := true, content := bs, origin }] := by
  cases fuel with
  | zero => rfl
  | succ fuel => exact if_pos h

theorem statusBytes_length (s : State) : (statusBytes s).length = 11 := by
  have hclock : (clockBytes s.clock).length = 5 := by cases s.clock <;> simp [clockBytes]
  have hsilence : (timerBytes 2 s.port.silence).length = 2 := by cases s.port.silence <;> simp [timerBytes, optBytes]
  simp [statusBytes, flagByte, hclock, hsilence]

/-- Settles O29: RESUME by the two conditions, KEEPALIVE by the layout of its status, and RESET_PART. -/
theorem resumeKeepaliveAndResetPart : Obligations.ResumeKeepaliveAndResetPart := by
  refine ⟨fun s tag rest h => ⟨fun hfall hheld => ?_, fun left hfall hnot => ⟨fun hheld => ?_, fun hheld => ?_⟩⟩,
    fun s tag rest => ⟨fun h silence hnone hsome => ?_, fun h => ?_⟩⟩
  · refine command_refuses (args := []) rfl h rfl ?_
    rw [resumeCommand_eq, leaveFallback_of_not (s := withRequests s rest) hfall, leaveSafeHold_of_not (s := withRequests s rest) hheld]
  · refine command_accepts (args := []) rfl h rfl ?_
    rw [resumeCommand_eq, leaveFallback_withRequests hfall hnot, leaveSafeHold_of_not]
    exact (leftFallback_safeHold hfall hnot).trans hheld
  · refine command_accepts (args := []) rfl h rfl ?_
    rw [resumeCommand_eq, leaveFallback_withRequests hfall hnot,
      leaveSafeHold_of (s := withRequests left rest) ((leftFallback_safeHold hfall hnot).trans hheld)]
    exact congrArg _ (tanksRequest_withRequests (s := { left with port := { left.port with safeHold := false } }))
  · refine (live_of_not_inReset h.1 _).trans (congrArg _ ?_)
    rw [takeRequest_executing h (isCommand_commandOf _ _ _ rfl), answerWith,
      resultParts_short (by rw [statusBytes_length]; decide)]
    have hsilence : timerBytes 2 s.port.silence = silence := by
      rw [timerBytes_eq]
      cases hs : s.port.silence with
      | none => exact (hnone hs).symm
      | some ms => exact (hsome ms hs).symm
    rw [← hsilence]
    rfl
  · refine (live_of_not_inReset h.1 _).trans (congrArg _ ?_)
    rw [takeRequest_executing h (isCommand_commandOf _ _ _ rfl)]
    rfl

/-! ### Owner requests -/

section Owners

variable {a : ActIx} {v : Nat}

theorem ownerRequest_of_unloaded (h : (s.actuator a).cfg = none) : ownerRequest a v s = s := by
  unfold ownerRequest
  rw [h]
  split <;> rfl

theorem ownerRequest_pin {p : PinIx} {safe : Nat} (hheld : s.port.safeHold = false)
    (h : (s.actuator a).cfg = some { binding := .pin p, safe := safe }) : ownerRequest a v s = appliedTo s a p v := by
  rw [ownerRequest, if_neg (Bool.eq_false_iff.mp hheld), h]
  exact applyPin_desired ..

theorem ownerRequest_field {n : NodeIx} {ch : Channel} {safe : Nat} (hheld : s.port.safeHold = false)
    (h : (s.actuator a).cfg = some { binding := .field n ch, safe := safe }) : ownerRequest a v s = requestField a v s := by
  rw [ownerRequest, if_neg (Bool.eq_false_iff.mp hheld), h]

/-- R79: the actuator asked for a value is queued. -/
theorem enqueue_desired (x : Actuator) :
    enqueue a (s.setActuator a x) =
      { s.setActuator a { x with state := .pending, retry := none } with
        line := { s.line with controlQ := s.line.controlQ ++ [a] } } := by
  rw [enqueue_eq, State.setActuator_actuator_self, State.setActuator_setActuator]
  rfl

theorem requestField_idle (h : (s.actuator a).state = .idle) :
    requestField a v s =
      if (s.actuator a).confirmed = some v then s.setActuator a { s.actuator a with desired := v }
      else enqueue a (s.setActuator a { s.actuator a with desired := v }) := by
  simp only [requestField, h]

theorem requestField_pending (h : (s.actuator a).state = .pending) :
    requestField a v s =
      if (s.actuator a).confirmed = some v then withdraw a (s.setActuator a { s.actuator a with desired := v })
      else s.setActuator a { s.actuator a with desired := v } := by
  simp only [requestField, h]

theorem requestField_inFlight (h : (s.actuator a).state = .inFlight) :
    requestField a v s = s.setActuator a { s.actuator a with desired := v } := by
  simp only [requestField, h]

/-- R79: in REFUSED and in FAILED a request acts alike. -/
theorem requestField_stopped (h : (s.actuator a).state = .refused ∨ (s.actuator a).state = .failed) :
    requestField a v s =
      if (s.actuator a).confirmed = some v then settleIdle a (s.setActuator a { s.actuator a with desired := v })
      else if v = (s.actuator a).desired then s.setActuator a { s.actuator a with desired := v }
      else enqueue a (s.setActuator a { s.actuator a with desired := v }) := by
  unfold requestField
  rcases h with h | h
  · simp only [h]
  · simp only [h]

end Owners

/-- Settles O30: the owner requests by binding and state, and a tank's three valves. -/
theorem ownersMoveTheirActuators : Obligations.OwnersMoveTheirActuators := by
  refine ⟨fun s a v h => h.elim (ownerRequest_of_safeHold · a v) ownerRequest_of_unloaded, fun s a v p safe hheld h =>
    ownerRequest_pin hheld h, fun s a v n ch safe hheld h => ?_, fun s t c hc => ?_⟩
  · have hrun : ownerRequest a v s = requestField a v s := ownerRequest_field hheld h
    intro x queued
    rw [hrun]
    have hqueued : enqueue a (s.setActuator a { s.actuator a with desired := v }) = queued := enqueue_desired _
    refine ⟨fun hst hconf => ?_, fun hst hconf => ?_, fun hst hconf => ?_, fun hst hconf => ?_, fun hst => ?_,
      fun hst hconf => ?_, fun hst hconf hv => ?_, fun hst hconf hv => ?_⟩
    · exact (requestField_idle hst).trans (if_pos hconf)
    · exact (requestField_idle hst).trans ((if_neg hconf).trans hqueued)
    · refine (requestField_pending hst).trans ((if_pos hconf).trans ?_)
      rw [withdraw_eq, State.setActuator_actuator_self, State.setActuator_setActuator]
      rfl
    · exact (requestField_pending hst).trans (if_neg hconf)
    · exact requestField_inFlight hst
    · refine (requestField_stopped hst).trans ((if_pos hconf).trans ?_)
      rw [settleIdle_eq, State.setActuator_actuator_self, State.setActuator_setActuator]
    · refine (requestField_stopped hst).trans ((if_neg hconf).trans ((if_pos hv.symm).trans ?_))
      rw [← hv]
      exact State.setActuator_actuator_eq s a
    · exact (requestField_stopped hst).trans ((if_neg hconf).trans ((if_neg (Ne.symm hv)).trans hqueued))
  · have hrework : reworkOpen (s.tank t) = true ↔ (s.tank t).state = .rework ∧ (s.tank t).paused = false := by simp [reworkOpen]
    simp only [tankRequest, hc, valveValue, hrework, inletOpen, drainOpen, decide_eq_true_eq]

end Sys2Proof.Machine
end


section
/-! The field scheduler: O31. -/

namespace Sys2Proof.Machine

variable {s : State} {i : ScanIx}

/-! ### The due entries -/

theorem firstDue_eq_some : firstDue s = some i ↔ FirstDue s i := by
  rw [firstDue, find?_finRange_eq_some, isDue_iff, FirstDue]
  simp only [← Bool.not_eq_true, isDue_iff]

theorem firstDue_eq_none : firstDue s = none ↔ ∀ i, ¬ Due s i := by
  rw [firstDue, find?_finRange_eq_none]
  simp only [← Bool.not_eq_true, isDue_iff]

theorem firstDue_isSome : (firstDue s).isSome = true ↔ ∃ i, Due s i := by
  rw [Option.isSome_iff_ne_none, ne_eq, firstDue_eq_none, not_forall_not]

/-- R68: the fairness exception does not hold. -/
theorem fairPoll_eq_false (h : SetsFirst s) : fairPoll s = false := by
  rw [fairPoll, Bool.and_eq_false_iff]
  rcases h with h | h
  · exact .inl (decide_eq_false (not_le.mpr h))
  · exact .inr (by rw [firstDue_eq_none.mpr h]; rfl)

theorem fairPoll_eq_true (hrun : 4 ≤ s.line.setRun) (h : FirstDue s i) : fairPoll s = true := by
  rw [fairPoll, firstDue_eq_some.mpr h, Bool.and_eq_true]
  exact ⟨decide_eq_true hrun, rfl⟩

theorem runAfterSet_eq {run : Nat} (h : SetRunAfterSet s run) : runAfterSet s = run := by
  obtain ⟨hdue, hnone⟩ := h
  unfold runAfterSet
  by_cases hd : ∃ i, Due s i
  · rw [if_pos (firstDue_isSome.mpr hd), hdue hd]
    rfl
  · rw [if_neg (mt firstDue_isSome.mp hd), hnone (not_exists.mp hd)]

/-! ### What each choice starts -/

/-- R64, R68: the poll of an entry starts. -/
theorem startPoll_eq {p : PointIx} {period : Nat} {n : NodeIx} {ch : Channel} (hslot : (s.scanEntry i).slot = some (p, period))
    (hfield : OnField s p n ch) :
    startPoll i s =
      { s with line :=
        { s.line with
          setRun := 0
          scan := s.line.scan.set i { s.scanEntry i with since := some 0, owed := false }
          hold := freshExchange s (.poll i p false) n ch 0 } } := by
  simp only [startPoll, hslot, fieldSource_iff.mpr hfield]
  rfl

theorem startDue_eq (h : FirstDue s i) : startDue s = startPoll i s := by rw [startDue, firstDue_eq_some.mpr h]

theorem startDue_none (h : ∀ i, ¬ Due s i) : startDue s = s := by rw [startDue, firstDue_eq_none.mpr h]

/-- R65, R68: the control set of the queue's head starts. -/
theorem startControl_eq {a : ActIx} {rest : List ActIx} {n : NodeIx} {ch : Channel} {safe run : Nat} (hq : s.line.controlQ = a :: rest)
    (ha : a ∉ rest) (hc : (s.actuator a).cfg = some { binding := .field n ch, safe := safe }) (hrun : SetRunAfterSet s run) :
    startControl a s =
      { s.setActuator a { s.actuator a with state := .inFlight } with line :=
        { s.line with
          controlQ := rest
          setRun := run
          hold := freshExchange s (.control a false) n ch (s.actuator a).desired } } := by
  have hfilter : (a :: rest).filter (· ≠ a) = rest := by
    rw [List.filter_cons_of_neg (by simp), List.filter_eq_self]
    intro b hb
    exact decide_eq_true (ne_of_mem_of_not_mem hb ha)
  have hleft : dequeue a s = s.setLine { s.line with controlQ := rest } := by rw [dequeue, hq, hfilter]
  simp only [startControl, runAfterSet_eq hrun, hleft]
  split
  · next hcfg =>
    cases hc.symm.trans hcfg
    rw [State.setActuator_actuator_self]
    rfl
  · next hother => exact absurd hc (hother n ch safe)

theorem interlockCheck_setLine (l : FieldLine) (n : NodeIx) (ch : Channel) (v : Nat) :
    interlockCheck (s.setLine l) n ch v = interlockCheck s n ch v := rfl

/-- R66, R68, R91: the pass-through set of the queue's head starts with the value that its second check passes. -/
theorem choosePass_eq {e : PassEntry} {rest : List PassEntry} {run v : Nat} (hrun : SetRunAfterSet s run)
    (hpass : PassesAs s e.node e.channel e.value v) :
    choosePass (e :: rest) s =
      { s with line :=
        { s.line with
          passQ := rest
          setRun := run
          hold := freshExchange s (.pass e.tag (e.clamped || decide (v < e.value))) e.node e.channel v } } := by
  have hrun' : runAfterSet (s.setLine { s.line with passQ := rest }) = run := runAfterSet_eq hrun
  simp only [choosePass, interlockCheck_setLine, interlockCheck_some.mpr ⟨hpass, rfl⟩, hrun']
  rfl

/-- R92: a head that its second check bars leaves INTERLOCKED. -/
theorem choosePass_barred {e : PassEntry} {rest : List PassEntry} (h : Barred s e.node e.channel) :
    choosePass (e :: rest) s =
      choosePass rest { s with
        line := { s.line with passQ := rest }
        port := { s.port with results := s.port.results ++ [passResultOf e.tag .interlocked []] } } := by
  simp only [choosePass, interlockCheck_setLine, interlockCheck_none.mpr h]
  rfl

/-! ### The choice -/

theorem schedule_allSafe (h : s.line.allSafePending = true) : schedule s = startAllSafe s := if_pos h

theorem schedule_fair (h : s.line.allSafePending = false) (hfair : fairPoll s = true) : schedule s = startDue s :=
  (if_neg (Bool.eq_false_iff.mp h)).trans (if_pos hfair)

theorem schedule_control {a : ActIx} {rest : List ActIx} (h : s.line.allSafePending = false) (hfair : fairPoll s = false)
    (hq : s.line.controlQ = a :: rest) : schedule s = startControl a s := by
  rw [schedule, if_neg (Bool.eq_false_iff.mp h), if_neg (Bool.eq_false_iff.mp hfair), hq]

theorem schedule_pass (h : s.line.allSafePending = false) (hfair : fairPoll s = false) (hq : s.line.controlQ = []) :
    schedule s = choosePass s.line.passQ s := by
  rw [schedule, if_neg (Bool.eq_false_iff.mp h), if_neg (Bool.eq_false_iff.mp hfair), hq]

/-- R67, R68: the due poll is chosen at a set-run count of 4, and when both set queues are empty. -/
theorem schedule_due (h : s.line.allSafePending = false)
    (hfirst : 4 ≤ s.line.setRun ∨ (s.line.controlQ = [] ∧ s.line.passQ = [])) (hdue : FirstDue s i) : schedule s = startDue s := by
  cases hfair : fairPoll s with
  | true => exact schedule_fair h hfair
  | false =>
    rcases hfirst with hrun | ⟨hcontrol, hpass⟩
    · rw [fairPoll_eq_true hrun hdue] at hfair
      cases hfair
    · rw [schedule_pass h hfair hcontrol, hpass]
      rfl

theorem exec_lineFree (hr : s.inReset = false) (h : s.line.hold = .none) : exec .lineFree s = .next (schedule s) :=
  (live_of_not_inReset hr _).trans (congrArg _ (if_pos h))

/-- Settles O31, choice by choice in the scheduler's order. -/
theorem schedulerChoosesByPriority : Obligations.SchedulerChoosesByPriority := by
  intro s hr
  refine ⟨fun hheld => (live_of_not_inReset hr _).trans (congrArg _ (if_neg hheld)), fun hfree => ?_⟩
  have hexec := exec_lineFree hr hfree
  refine ⟨fun hpend => ?_, fun i p period n ch hpend hfirst hdue hslot hfield => ?_, fun a rest n ch safe run hpend hsets hrun hq ha hc => ?_,
    fun e rest run v hpend hsets hrun hcontrol hpass hv => ?_, fun e rest hpend hsets hcontrol hpass hbarred => ?_,
    fun hpend hcontrol hpass hnone => ?_⟩
  · rw [hexec, schedule_allSafe hpend]
    rfl
  · rw [hexec, schedule_due hpend hfirst hdue, startDue_eq hdue, startPoll_eq hslot hfield]
  · rw [hexec, schedule_control hpend (fairPoll_eq_false hsets) hq, startControl_eq hq ha hc hrun]
  · rw [hexec, schedule_pass hpend (fairPoll_eq_false hsets) hcontrol, hpass, choosePass_eq hrun hv]
  · rw [hexec, schedule_pass hpend (fairPoll_eq_false hsets) hcontrol, hpass, choosePass_barred hbarred]
    refine Eq.symm ((exec_lineFree ?_ ?_).trans (congrArg _ (schedule_pass ?_ ?_ ?_)))
    · exact hr
    · exact hfree
    · exact hpend
    · exact fairPoll_eq_false hsets
    · exact hcontrol
  · rw [hexec, schedule_pass hpend (fairPoll_eq_false (.inr hnone)) hcontrol, hpass]
    exact congrArg _ (startDue_none hnone)

end Sys2Proof.Machine
end


section
/-! The frames, the phases and the ends of a transaction, the scan clock and the retry timers: O32 to O36. -/

namespace Sys2Proof.Machine

variable {s : State} {x : Exchange}

/-! ### Frames -/

theorem fieldFrame_eq (address kind channel value status : Nat) :
    fieldFrame address kind channel value status = fieldLayout address kind channel value status := by
  simp [fieldFrame, fieldLayout, laidOut]

/-- R203: one byte goes through the CRC-8 bit by bit. -/
def crc8Byte (r b : Byte) : Byte := (dividedBit 7)^[8] (r ^^^ b)

theorem crc8_eq_foldl (bytes : List Byte) : crc8 bytes = bytes.foldl crc8Byte 0 := rfl

theorem crc8_append (bytes : List Byte) (b : Byte) : crc8 (bytes ++ [b]) = crc8Byte (crc8 bytes) b := by simp [crc8_eq_foldl]

/-- The top bit of a byte, read from its number. -/
theorem dividedBit_byte_of_toNat (polynomial r : Byte) :
    dividedBit polynomial r = if 128 ≤ r.toNat then r <<< 1 ^^^ polynomial else r <<< 1 := by
  simp [dividedBit, BitVec.msb_eq_decide]

/-- R203: the check value of the CRC-8, over the characters 1 to 9. -/
theorem crc8_check_value : crc8 [49, 50, 51, 52, 53, 54, 55, 56, 57] = 244 := by
  simp [crc8_eq_foldl, crc8Byte, dividedBit_byte_of_toNat]

theorem isPoll_iff {j : Job} : isPoll j = true ↔ ∃ i p rewritten, j = .poll i p rewritten := by cases j <;> simp [isPoll]

theorem requestFrame_poll (h : ∃ i p rewritten, x.job = .poll i p rewritten) :
    requestFrame x = fieldLayout (x.node.val + 1) 1 x.channel.val 0 0 := by
  rw [requestFrame, if_pos (isPoll_iff.mpr h), fieldFrame_eq]
  rfl

theorem requestFrame_set (h : ∀ i p rewritten, x.job ≠ .poll i p rewritten) :
    requestFrame x = fieldLayout (x.node.val + 1) 3 x.channel.val x.value 0 := by
  have hset : ¬ isPoll x.job = true := fun hpoll => by
    obtain ⟨i, p, rewritten, hj⟩ := isPoll_iff.mp hpoll
    exact h i p rewritten hj
  rw [requestFrame, if_neg hset, fieldFrame_eq]
  rfl

theorem frameOnLine_exchange (hx : s.line.hold = .exchange x) (hp : x.phase = .sending) : frameOnLine s = some (requestFrame x) := by
  simp only [frameOnLine, hx, hp, if_true]

/-- R53, R203: a frame from the node and channel of the transaction is read as its kind, value and status spell. -/
theorem replyIn_fieldFrame {kind value status : Nat} (hk : kind < 256) (hv : value < 65536) (hs : status < 256) :
    replyIn x (fieldFrame (nodeNumber x.node) kind x.channel.val value status) = replyOf x kind value status := by
  have hn : nodeNumber x.node < 256 := by simp only [nodeNumber]; omega
  have hc : x.channel.val < 256 := by omega
  have hlen : (be 1 (nodeNumber x.node) ++ be 1 kind ++ be 1 x.channel.val ++ be 2 value ++ be 1 status).length = 6 := by simp
  unfold replyIn fieldFrame
  rw [if_pos]
  · congr 1
    · simp [Nat.mod_eq_of_lt hk]
    · simp [Nat.mod_eq_of_lt hv]
    · simp [Nat.mod_eq_of_lt hs]
  · simp only [Bool.and_eq_true, decide_eq_true_eq]
    refine ⟨⟨⟨by simp, ?_⟩, ?_⟩, ?_⟩
    · rw [List.drop_left' hlen, List.take_left' hlen]
    · simp [Nat.mod_eq_of_lt hn]
    · simp [Nat.mod_eq_of_lt hc]

theorem takeFrame_noReply {frame : List Byte} (h : NoReply x frame) : takeFrame x frame s = silentAttempt x s := by
  rw [takeFrame, (replyIn_none x frame).mpr h]

theorem takeFrame_reading {i : ScanIx} {p : PointIx} {rewritten fault : Bool} {v : Nat} (hj : x.job = .poll i p rewritten)
    (hv : v < 65536) :
    takeFrame x (fieldFrame (nodeNumber x.node) 2 x.channel.val v fault.toNat) s = endReading x (signed16 v) fault s := by
  rw [takeFrame, replyIn_fieldFrame (by decide) hv (by cases fault <;> decide)]
  cases fault <;> simp [replyOf, hj, isPoll]

theorem takeFrame_confirm (hj : ∀ i p rewritten, x.job ≠ .poll i p rewritten) (hv : x.value ≤ 1000) :
    takeFrame x (fieldFrame (nodeNumber x.node) 4 x.channel.val x.value 0) s = endConfirm x x.value s := by
  have hset : isPoll x.job = false := Bool.eq_false_iff.mpr fun hpoll => by
    obtain ⟨i, p, rewritten, h⟩ := isPoll_iff.mp hpoll
    exact hj i p rewritten h
  rw [takeFrame, replyIn_fieldFrame (by decide) (by omega) (by decide)]
  simp [replyOf, hset, hv]

/-- R203: the three reasons that a REFUSE carries. -/
def RefuseCode (status : Nat) (reason : ActReason) : Prop :=
  (status = 1 ∧ reason = .notAllowed) ∨ (status = 2 ∧ reason = .outOfRange) ∨ (status = 3 ∧ reason = .localMode)

theorem RefuseCode.reason {status : Nat} {reason : ActReason} (h : RefuseCode status reason) : refuseReason status = some reason := by
  obtain ⟨rfl, rfl⟩ | ⟨rfl, rfl⟩ | ⟨rfl, rfl⟩ := h <;> rfl

theorem RefuseCode.code {status : Nat} {reason : ActReason} (h : RefuseCode status reason) : actReasonCode reason = status := by
  obtain ⟨rfl, rfl⟩ | ⟨rfl, rfl⟩ | ⟨rfl, rfl⟩ := h <;> rfl

theorem RefuseCode.lt {status : Nat} {reason : ActReason} (h : RefuseCode status reason) : status < 256 := by
  obtain ⟨rfl, rfl⟩ | ⟨rfl, rfl⟩ | ⟨rfl, rfl⟩ := h <;> decide

theorem takeFrame_refuse {status : Nat} {reason : ActReason} (hj : ∀ i p rewritten, x.job ≠ .poll i p rewritten)
    (h : RefuseCode status reason) :
    takeFrame x (fieldFrame (nodeNumber x.node) 5 x.channel.val 0 status) s = endRefused x reason s := by
  have hset : isPoll x.job = false := Bool.eq_false_iff.mpr fun hpoll => by
    obtain ⟨i, p, rewritten, h⟩ := isPoll_iff.mp hpoll
    exact hj i p rewritten h
  rw [takeFrame, replyIn_fieldFrame (by decide) (by decide) h.lt]
  simp [replyOf, hset, h.reason]

theorem takeFrame_holdoff : takeFrame x (fieldFrame (nodeNumber x.node) 6 x.channel.val 0 0) s = takeHoldoff x s := by
  rw [takeFrame, replyIn_fieldFrame (by decide) (by decide) (by decide)]
  simp [replyOf]

theorem exec_fieldReplyReceived (hr : s.inReset = false) (hx : s.line.hold = .exchange x) (hp : x.phase = .window) (frame : List Byte) :
    exec (.fieldReplyReceived frame) s = .next (takeFrame x frame s) := by
  simp only [exec, execFieldReplyReceived]
  rw [live_of_not_inReset hr]
  simp only [hx, hp, if_true]

theorem exec_replyWindowClosed (hr : s.inReset = false) (hx : s.line.hold = .exchange x) (hp : x.phase = .window) :
    exec .replyWindowClosed s = .next (silentAttempt x s) := by
  simp only [exec, execReplyWindowClosed]
  rw [live_of_not_inReset hr]
  simp only [hx, hp, if_true]

/-! ### Retries -/

theorem retryExpired_field {a : ActIx} {ms safe : Nat} {n : NodeIx} {ch : Channel} (hm : (s.actuator a).retry = some ms)
    (hst : (s.actuator a).state = .refused ∨ (s.actuator a).state = .failed)
    (hc : (s.actuator a).cfg = some { binding := .field n ch, safe := safe }) :
    retryExpired a s = if (s.actuator a).confirmed = some (s.actuator a).desired then settleIdle a s else enqueue a s := by
  unfold retryExpired
  rw [if_pos (by simpa [hm] using hst), hc]

theorem retryExpired_pin {a : ActIx} {ms safe : Nat} {p : PinIx} (hm : (s.actuator a).retry = some ms)
    (hst : (s.actuator a).state = .refused ∨ (s.actuator a).state = .failed)
    (hc : (s.actuator a).cfg = some { binding := .pin p, safe := safe }) :
    retryExpired a s = appliedTo s a p (s.actuator a).desired := by
  unfold retryExpired
  rw [if_pos (by simpa [hm] using hst), hc]
  exact applyPin_eq ..

theorem exec_retryTimerExpiry {a : ActIx} {ms : Nat} (hr : s.inReset = false) (hm : (s.actuator a).retry = some ms) :
    exec (.retryTimerExpiry a) s = .next (drainFailed a (retryExpired a s)) :=
  (live_of_not_inReset hr _).trans (congrArg _ (if_pos (by rw [hm]; rfl)))

theorem drainsRelease_congr {t : State} {a : ActIx} (h : t.tanks = s.tanks) : DrainsRelease t a ↔ DrainsRelease s a := by
  have htank (k : TankIx) : t.tank k = s.tank k := by rw [State.tank, h]; rfl
  simp only [DrainsRelease, releasingTank_congr h, htank]

theorem appliedTo_tanks (a : ActIx) (p : PinIx) (v : Nat) : (appliedTo s a p v).tanks = s.tanks := by
  obtain ⟨_, _, _, h⟩ := appliedTo_touches s a p v
  rw [h]

/-- Settles O32: the frames, the phases of a transaction, the scan clock and the retry timers. -/
theorem lineTimersAndPhases : Obligations.LineTimersAndPhases := by
  refine ⟨fieldFrame_eq, crc8_append, rfl, crc8_check_value, fun s x hx hp => ⟨fun hj => ?_, fun hj => ?_⟩, fun s h => ?_,
    fun s x frame hr => ⟨rfl, fun hx hp => ⟨fun hpend => ?_, fun hpend => ?_⟩, fun hx hp => ?_, fun hx hp => ?_, fun hx => ⟨?_, ?_⟩⟩,
    fun s hr => ?_, fun s a hr hm => ?_, fun s a ms safe hr hm hst => ⟨fun n ch hc => ⟨fun hconf => ?_, fun hconf => ?_⟩,
      fun p hc hdrain => ?_⟩⟩
  · rw [frameOnLine_exchange hx hp, requestFrame_poll hj]
  · rw [frameOnLine_exchange hx hp, requestFrame_set hj]
  · simp only [frameOnLine, h, allSafeFrame, fieldFrame_eq]
  · simp only [exec, execRequestFrameSent]
    rw [live_of_not_inReset hr]
    simp only [hx, hp, if_true]
    rw [if_neg (Bool.eq_false_iff.mp hpend)]
    rfl
  · simp only [exec, execRequestFrameSent]
    rw [live_of_not_inReset hr]
    simp only [hx, hp, hpend, if_true, abandon_eq]
    rfl
  · simp only [exec, execSilentAttemptResend]
    rw [live_of_not_inReset hr]
    simp only [hx, hp, if_true]
    rfl
  · simp only [exec, execHoldoffDelayExpiry]
    rw [live_of_not_inReset hr]
    simp only [hx, hp, if_true]
    rfl
  · simp only [exec, execFieldReplyReceived]
    rw [live_of_not_inReset hr]
    simp only [hx]
    rfl
  · simp only [exec, execReplyWindowClosed]
    rw [live_of_not_inReset hr]
    simp only [hx]
    rfl
  · simp only [exec, execScanClockStep]
    rw [live_of_not_inReset hr]
    simp only [eachOf_eq_map]
    rfl
  · exact (live_of_not_inReset hr _).trans (congrArg _ (if_neg (by rw [hm]; decide)))
  · rw [exec_retryTimerExpiry hr hm, retryExpired_field hm hst hc, if_pos hconf, settleIdle_eq, drainFailed_of_state] <;> simp
  · rw [exec_retryTimerExpiry hr hm, retryExpired_field hm hst hc, if_neg hconf, enqueue_eq, drainFailed_of_state] <;>
      simp [State.actuator]
  · rw [exec_retryTimerExpiry hr hm, retryExpired_pin hm hst hc,
      drainFailed_of_not_drains ((drainsRelease_congr (appliedTo_tanks ..)).not.mpr hdrain)]

/-! ### The ends of a transaction -/

/-- R59: the node's health after a reply. -/
theorem nodeReplied_eq (n : NodeIx) (kind : Nat) : nodeReplied n kind (setHold .none s) = afterReply n kind s := by
  unfold nodeReplied afterReply
  have hnode : (setHold .none s).node n = s.node n := rfl
  rw [hnode]
  dsimp only
  split <;> rfl

/-- R40: one point of a node that is set LOST. -/
def lostPoint (n : NodeIx) (x : Point) : Point := if onNode n x then { x with quality := .failed } else x

/-- R40: what failing one point of a node comes to. -/
theorem failStep_eq (n : NodeIx) (p : PointIx) (s : State) :
    (if onNode n (s.point p) then failPoint p .nodeLost s else s) =
      { s.setPoint p (lostPoint n (s.point p)) with
        reports :=
          if onNode n (s.point p) && (s.point p).quality ≠ .failed then s.reports.raise (.alert .pointFailed (.point p) [2] s.clock)
          else s.reports } := by
  by_cases hn : onNode n (s.point p)
  · by_cases hq : (s.point p).quality = .failed
    · have hsame : lostPoint n (s.point p) = s.point p := by
        rw [lostPoint, if_pos hn, ← hq]
      rw [if_pos hn, failPoint, if_pos hq, hsame, State.setPoint_point_eq, if_neg (by simp [hq])]
    · rw [if_pos hn, failPoint, if_neg hq, lostPoint, if_pos hn, if_pos (by simp [hn, hq])]
      rfl
  · rw [if_neg hn, lostPoint, if_neg hn, State.setPoint_point_eq, if_neg (by simp [hn])]

/-- R40: the points of a node among `l` fail one after the other. -/
theorem foldl_failPoint_eq (n : NodeIx) {l : List PointIx} (hl : l.Nodup) (s : State) :
    l.foldl (fun s p => if onNode n (s.point p) then failPoint p .nodeLost s else s) s =
      { s with
        points := Vector.ofFn fun p => if p ∈ l then lostPoint n (s.point p) else s.point p
        reports :=
          (l.filter fun p => onNode n (s.point p) && (s.point p).quality ≠ .failed).foldl
            (fun q p => q.raise (.alert .pointFailed (.point p) [2] s.clock)) s.reports } := by
  induction l generalizing s with
  | nil =>
    have hpoints : (Vector.ofFn fun p => s.point p) = s.points := Vector.ext fun i hi => by simp [State.point]
    simp [hpoints]
  | cons p l ih =>
    obtain ⟨hp, hl⟩ := List.nodup_cons.mp hl
    rw [List.foldl_cons, failStep_eq, ih hl]
    have hother (q : PointIx) (hq : q ∈ l) (r : ReportQueue) :
        State.point { s.setPoint p (lostPoint n (s.point p)) with reports := r } q = s.point q :=
      State.setPoint_point_ne s p q _ (ne_of_mem_of_not_mem hq hp)
    have hpoints (q : PointIx) (r : ReportQueue) :
        (if q ∈ l then lostPoint n (State.point { s.setPoint p (lostPoint n (s.point p)) with reports := r } q)
          else State.point { s.setPoint p (lostPoint n (s.point p)) with reports := r } q) =
          if q ∈ p :: l then lostPoint n (s.point q) else s.point q := by
      by_cases hq : q ∈ l
      · rw [if_pos hq, if_pos (List.mem_cons_of_mem p hq), hother q hq]
      · rw [if_neg hq]
        refine (State.setPoint_point s p q _).trans ?_
        by_cases hqp : q = p
        · subst hqp
          rw [if_pos rfl, if_pos List.mem_cons_self]
        · rw [if_neg hqp, if_neg (by simp [hqp, hq])]
    have hfilter (r : ReportQueue) :
        (l.filter fun q => onNode n (State.point { s.setPoint p (lostPoint n (s.point p)) with reports := r } q) &&
            (State.point { s.setPoint p (lostPoint n (s.point p)) with reports := r } q).quality ≠ .failed) =
          l.filter fun q => onNode n (s.point q) && (s.point q).quality ≠ .failed :=
      List.filter_congr fun q hq => by rw [hother q hq r]
    simp only [hpoints, hfilter, List.filter_cons]
    split <;> rfl

theorem failNode_eq (n : NodeIx) (s : State) :
    failNode n s =
      { s with
        points := s.points.map (lostPoint n)
        reports := (newlyLost s n).foldl (fun q p => q.raise (.alert .pointFailed (.point p) [2] s.clock)) s.reports } := by
  have hpoints : (Vector.ofFn fun p => lostPoint n (s.point p)) = s.points.map (lostPoint n) :=
    Vector.ext fun i hi => by simp [State.point]
  rw [failNode, foldl_failPoint_eq n (List.nodup_finRange 32)]
  simp only [List.mem_finRange, if_true, hpoints]
  rfl

/-- R60: the node's health and its points after a failure. -/
theorem nodeFailed_eq (n : NodeIx) (reason : FailReason) : nodeFailed n reason (setHold .none s) = afterFailure n reason s := by
  unfold nodeFailed afterFailure
  have hnode : (setHold .none s).node n = s.node n := rfl
  rw [hnode]
  dsimp only
  split
  · rfl
  · split
    · rfl
    · rw [failNode_eq]
      rfl

/-- R82: what a refusal or a failure makes of its actuator. -/
theorem takeRefusal_eq (a : ActIx) (st : ActState) (reason : ActReason) (v : Nat) :
    takeRefusal a st reason v s = afterRefusal a st reason v s := by
  unfold takeRefusal afterRefusal
  have hact : (raiseAlert .actuatorFailed (.actuator a) [actReasonCode reason, v]
      (s.setActuator a { s.actuator a with reason := reason })).actuator a = { s.actuator a with reason := reason } :=
    State.setActuator_actuator_self ..
  have hset (y : Actuator) : (raiseAlert .actuatorFailed (.actuator a) [actReasonCode reason, v]
      (s.setActuator a { s.actuator a with reason := reason })).setActuator a y =
        { s.setActuator a y with
          reports := s.reports.raise (.alert .actuatorFailed (.actuator a) [actReasonCode reason, v] s.clock) } := by
    simp [State.setActuator, State.setReports, State.clock]
  dsimp only
  rw [hact, settleIdle_eq, enqueue_eq, hact]
  simp only [hset]
  split_ifs <;> rfl

/-! ### The settled outcomes -/

theorem afterFailure_touches (n : NodeIx) (reason : FailReason) (s : State) :
    ∃ line points reports, afterFailure n reason s = { s with line := line, points := points, reports := reports } := by
  unfold afterFailure
  dsimp only
  split_ifs
  · exact ⟨_, s.points, s.reports, rfl⟩
  · exact ⟨_, s.points, s.reports, rfl⟩
  · exact ⟨_, _, _, rfl⟩

theorem afterFailure_actuator (n : NodeIx) (reason : FailReason) (a : ActIx) : (afterFailure n reason s).actuator a = s.actuator a := by
  obtain ⟨_, _, _, h⟩ := afterFailure_touches n reason s
  rw [h]
  rfl

theorem afterFailure_tanks (n : NodeIx) (reason : FailReason) : (afterFailure n reason s).tanks = s.tanks := by
  obtain ⟨_, _, _, h⟩ := afterFailure_touches n reason s
  rw [h]

theorem afterRefusal_tanks (a : ActIx) (st : ActState) (reason : ActReason) (v : Nat) :
    (afterRefusal a st reason v s).tanks = s.tanks := by
  unfold afterRefusal
  dsimp only
  split_ifs <;> rfl

/-- R82: a set that carried the desired value leaves its actuator REFUSED or FAILED. -/
theorem afterRefusal_state_same {a : ActIx} {st : ActState} {reason : ActReason} {v : Nat} (h : (s.actuator a).desired = v) :
    ((afterRefusal a st reason v s).actuator a).state = st := by
  unfold afterRefusal
  dsimp only
  rw [if_pos h, State.setActuator_actuator_self]

/-- R82: a set that carried an older value leaves its actuator IDLE or PENDING. -/
theorem afterRefusal_state_older {a : ActIx} {st : ActState} {reason : ActReason} {v : Nat} (h : (s.actuator a).desired ≠ v) :
    ((afterRefusal a st reason v s).actuator a).state = .idle ∨ ((afterRefusal a st reason v s).actuator a).state = .pending := by
  unfold afterRefusal
  dsimp only
  rw [if_neg h]
  split_ifs
  · rw [State.setActuator_actuator_self]
    exact .inl rfl
  · right
    simp [State.actuator]

theorem withOutcome_eq (i : ScanIx) (rewritten : Bool) (o : ScanOutcome) : scanOutcome i rewritten o s = withOutcome i rewritten o s := rfl

theorem endReading_eq {i : ScanIx} {p : PointIx} {rewritten fault : Bool} {raw : Int} (hj : x.job = .poll i p rewritten) :
    endReading x raw fault s =
      deliverReading p x.node x.channel raw fault (withOutcome i rewritten .reading (afterReply x.node 1 s)) := by
  simp only [endReading, hj, nodeReplied_eq, withOutcome_eq]

/-- Settles O33. -/
theorem readingsEndTheirPoll : Obligations.ReadingsEndTheirPoll := by
  intro s x i p rewritten fault v hr hx hp hj hv
  rw [exec_fieldReplyReceived hr hx hp, takeFrame_reading hj hv, endReading_eq hj]
  rfl

section Sets

variable {a : ActIx} {tag : Byte} {clamped void : Bool}

theorem ne_poll_of_control (hj : x.job = .control a void) : ∀ i p rewritten, x.job ≠ .poll i p rewritten := by
  rw [hj]; exact nofun

theorem ne_poll_of_pass (hj : x.job = .pass tag clamped) : ∀ i p rewritten, x.job ≠ .poll i p rewritten := by
  rw [hj]; exact nofun

/-- R81: the node confirmed the desired value. -/
theorem takeConfirm_same {v : Nat} (h : (s.actuator a).desired = v) :
    takeConfirm a v s = s.setActuator a { s.actuator a with confirmed := some v, state := .idle, retry := none } := by
  unfold takeConfirm
  dsimp only
  rw [State.setActuator_actuator_self, if_pos h, settleIdle_eq, State.setActuator_actuator_self, State.setActuator_setActuator]

/-- R81: the node confirmed an older value. -/
theorem takeConfirm_older {v : Nat} (h : (s.actuator a).desired ≠ v) :
    takeConfirm a v s =
      { s.setActuator a { s.actuator a with confirmed := some v, state := .pending, retry := none } with
        line := { s.line with controlQ := s.line.controlQ ++ [a] } } := by
  unfold takeConfirm
  dsimp only
  rw [State.setActuator_actuator_self, if_neg h, enqueue_desired]

theorem endConfirm_void {v : Nat} (hj : x.job = .control a true) : endConfirm x v s = afterReply x.node 2 s := by
  simp only [endConfirm, hj, nodeReplied_eq, if_true]

theorem endConfirm_control {v : Nat} (hj : x.job = .control a false) : endConfirm x v s = takeConfirm a v (afterReply x.node 2 s) := by
  simp only [endConfirm, hj, nodeReplied_eq, Bool.false_eq_true, if_false]

theorem endConfirm_pass {v : Nat} (hj : x.job = .pass tag clamped) :
    endConfirm x v s = passResult tag (if clamped then .clamped else .ok) (be 2 v) (afterReply x.node 2 s) := by
  simp only [endConfirm, hj, nodeReplied_eq]

theorem endRefused_void {reason : ActReason} (hj : x.job = .control a true) : endRefused x reason s = afterReply x.node 2 s := by
  simp only [endRefused, hj, nodeReplied_eq, controlRefused, if_true]

theorem endRefused_control {reason : ActReason} (hj : x.job = .control a false) :
    endRefused x reason s = drainFailed a (afterRefusal a .refused reason x.value (afterReply x.node 2 s)) := by
  simp only [endRefused, hj, nodeReplied_eq, controlRefused, Bool.false_eq_true, if_false, takeRefusal_eq]

theorem endRefused_pass {reason : ActReason} (hj : x.job = .pass tag clamped) :
    endRefused x reason s = passResult tag .refused (be 1 (actReasonCode reason)) (afterReply x.node 2 s) := by
  simp only [endRefused, hj, nodeReplied_eq]

theorem passResult_eq (tag : Byte) (code : Code) (content : List Byte) (s : State) :
    passResult tag code content s =
      { s with port := { s.port with results := s.port.results ++ [passResultOf tag code content] } } := rfl

/-- R82, R179: a refusal or failure of an actuator that drains no release. -/
theorem drainFailed_afterRefusal {t : State} (htanks : t.tanks = s.tanks) (h : ¬ DrainsRelease s a) (st : ActState) (reason : ActReason)
    (v : Nat) : drainFailed a (afterRefusal a st reason v t) = afterRefusal a st reason v t :=
  drainFailed_of_not_drains ((drainsRelease_congr ((afterRefusal_tanks a st reason v).trans htanks)).not.mpr h)

end Sets

/-- Settles O34, by the reply and the kind of set. -/
theorem setsEndConfirmedOrRefused : Obligations.SetsEndConfirmedOrRefused := by
  intro s x hr hx hp
  refine ⟨fun hv => ⟨fun a hj => ?_, fun a hj => ⟨fun hd => ?_, fun hd => ?_⟩, fun tag clamped hj => ?_⟩,
    fun status reason (hcode : RefuseCode status reason) => ⟨fun a hj => ?_, fun a hj hdrain => ?_, fun tag clamped hj => ?_⟩⟩
  · rw [exec_fieldReplyReceived hr hx hp, takeFrame_confirm (ne_poll_of_control hj) hv, endConfirm_void hj]
  · rw [exec_fieldReplyReceived hr hx hp, takeFrame_confirm (ne_poll_of_control hj) hv, endConfirm_control hj, takeConfirm_same (s := afterReply x.node 2 s) hd]
    rfl
  · rw [exec_fieldReplyReceived hr hx hp, takeFrame_confirm (ne_poll_of_control hj) hv, endConfirm_control hj, takeConfirm_older (s := afterReply x.node 2 s) hd]
    rfl
  · rw [exec_fieldReplyReceived hr hx hp, takeFrame_confirm (ne_poll_of_pass hj) hv, endConfirm_pass hj, passResult_eq]
  · rw [exec_fieldReplyReceived hr hx hp, takeFrame_refuse (ne_poll_of_control hj) hcode, endRefused_void hj]
  · rw [exec_fieldReplyReceived hr hx hp, takeFrame_refuse (ne_poll_of_control hj) hcode, endRefused_control hj,
      drainFailed_afterRefusal (t := afterReply x.node 2 s) (s := s) rfl hdrain]
  · rw [exec_fieldReplyReceived hr hx hp, takeFrame_refuse (ne_poll_of_pass hj) hcode, endRefused_pass hj, passResult_eq, hcode.code]

/-! ### Failed transactions -/

section Failures

variable {a : ActIx} {tag : Byte} {clamped : Bool} {reason : FailReason}

theorem silentAttempt_first (h : x.silents = 0) :
    silentAttempt x s = { s with line := { s.line with hold := .exchange { x with silents := 1, phase := .resend } } } := if_pos h

theorem silentAttempt_second (h : x.silents ≠ 0) : silentAttempt x s = endFailed x .silent s := if_neg h

theorem takeHoldoff_again (h : x.holdoffs < 3) :
    takeHoldoff x s = { s with line := { s.line with hold := .exchange { x with holdoffs := x.holdoffs + 1, phase := .holdoff } } } :=
  if_pos h

theorem takeHoldoff_fourth (h : 3 ≤ x.holdoffs) : takeHoldoff x s = endFailed x .holdoffLimit s := if_neg (not_lt.mpr h)

/-- R53 to R55: a window that closes with no frame, and a frame in it that is no reply, are silent attempts. -/
theorem exec_silent {c : Instr} (hr : s.inReset = false) (hx : s.line.hold = .exchange x) (hp : x.phase = .window)
    (hc : c = .replyWindowClosed ∨ ∃ frame, c = .fieldReplyReceived frame ∧ NoReply x frame) :
    exec c s = .next (silentAttempt x s) := by
  obtain rfl | ⟨frame, rfl, hframe⟩ := hc
  · exact exec_replyWindowClosed hr hx hp
  · rw [exec_fieldReplyReceived hr hx hp, takeFrame_noReply hframe]

theorem exec_holdoff (hr : s.inReset = false) (hx : s.line.hold = .exchange x) (hp : x.phase = .window) :
    exec (.fieldReplyReceived (fieldFrame (nodeNumber x.node) 6 x.channel.val 0 0)) s = .next (takeHoldoff x s) := by
  rw [exec_fieldReplyReceived hr hx hp, takeFrame_holdoff]

theorem endFailed_poll {i : ScanIx} {p : PointIx} {rewritten : Bool} (hj : x.job = .poll i p rewritten) :
    endFailed x reason s = withOutcome i rewritten (failScanOutcome reason) (afterFailure x.node reason s) := by
  simp only [endFailed, hj, nodeFailed_eq, withOutcome_eq]

theorem endFailed_void (hj : x.job = .control a true) : endFailed x reason s = afterFailure x.node reason s := by
  simp only [endFailed, hj, nodeFailed_eq, controlRefused, if_true]

theorem endFailed_control (hj : x.job = .control a false) :
    endFailed x reason s = drainFailed a (afterRefusal a .failed (failActReason reason) x.value (afterFailure x.node reason s)) := by
  simp only [endFailed, hj, nodeFailed_eq, controlRefused, Bool.false_eq_true, if_false, takeRefusal_eq]

theorem endFailed_pass (hj : x.job = .pass tag clamped) :
    endFailed x reason s = passResult tag .failed (be 1 (failReasonCode reason)) (afterFailure x.node reason s) := by
  simp only [endFailed, hj, nodeFailed_eq]

end Failures

/-- Settles O35: the two ways in which a transaction fails, by its kind; then the attempts that are repeated. -/
theorem failedTransactionsAreSettled : Obligations.FailedTransactionsAreSettled := by
  intro s x hr hx hp
  refine ⟨fun c reason actReason outcome number hway => ?_, fun hfirst => ⟨?_, fun frame hframe => ?_⟩, fun hagain => ?_⟩
  · have hfails : exec c s = .next (endFailed x reason s) ∧ failActReason reason = actReason ∧ failScanOutcome reason = outcome ∧
        failReasonCode reason = number := by
      obtain ⟨hc, hsecond, rfl, rfl, rfl, rfl⟩ | ⟨rfl, hfourth, rfl, rfl, rfl, rfl⟩ := hway
      · exact ⟨by rw [exec_silent hr hx hp hc, silentAttempt_second hsecond], rfl, rfl, rfl⟩
      · exact ⟨by rw [exec_holdoff hr hx hp, takeHoldoff_fourth hfourth], rfl, rfl, rfl⟩
    obtain ⟨hexec, rfl, rfl, rfl⟩ := hfails
    refine ⟨fun i p rewritten hj => ?_, fun a hj => ?_, fun a hj hdrain => ?_, fun tag clamped hj => ?_⟩
    · rw [hexec, endFailed_poll hj]
    · rw [hexec, endFailed_void hj]
    · rw [hexec, endFailed_control hj, drainFailed_afterRefusal (afterFailure_tanks ..) hdrain]
    · rw [hexec, endFailed_pass hj, passResult_eq]
  · rw [exec_silent hr hx hp (.inl rfl), silentAttempt_first hfirst]
  · rw [exec_silent hr hx hp (.inr ⟨frame, rfl, hframe⟩), silentAttempt_first hfirst]
  · rw [exec_holdoff hr hx hp, takeHoldoff_again hagain]

/-! ### The drain of the RELEASING tank -/

section Drain

variable {a : ActIx} {t : TankIx} {c : TankCfg}

/-- R179: a drain that is REFUSED or FAILED stops the release. -/
theorem drainFailed_stops (hst : (s.actuator a).state = .refused ∨ (s.actuator a).state = .failed) (ht : releasingTank s = some t)
    (hc : (s.tank t).cfg = some c) (ha : c.drain.act = a) : drainFailed a s = afterStop t 3 s := by
  have hstop : stopRelease .drainFailed s = afterStop t 3 s := stopRelease_of_some ht nofun
  unfold drainFailed
  rw [if_pos (by simpa using hst), ht]
  dsimp only
  rw [if_pos (by simp [hc, ha]), hstop]

/-- R179: the drain's set ends in a refusal or a failure: it stops the release when it carried the desired value. -/
theorem drainFailed_afterRefusal_drain {u : State} (htanks : u.tanks = s.tanks) (hact : u.actuator a = s.actuator a)
    (ht : releasingTank s = some t) (hc : (s.tank t).cfg = some c) (ha : c.drain.act = a) {st : ActState}
    (hst : st = .refused ∨ st = .failed) (reason : ActReason) (v : Nat) :
    ((s.actuator a).desired = v → drainFailed a (afterRefusal a st reason v u) = afterStop t 3 (afterRefusal a st reason v u)) ∧
      ((s.actuator a).desired ≠ v → drainFailed a (afterRefusal a st reason v u) = afterRefusal a st reason v u) := by
  have hkept := (afterRefusal_tanks (s := u) a st reason v).trans htanks
  rw [← hact]
  refine ⟨fun hd => drainFailed_stops ?_ ((releasingTank_congr hkept).trans ht) ?_ ha, fun hd => ?_⟩
  · rw [afterRefusal_state_same hd]
    exact hst
  · rw [State.tank, hkept]
    exact hc
  · obtain hidle | hpending := afterRefusal_state_older (st := st) (reason := reason) hd
    · exact drainFailed_of_state (by rw [hidle]; exact nofun) (by rw [hidle]; exact nofun)
    · exact drainFailed_of_state (by rw [hpending]; exact nofun) (by rw [hpending]; exact nofun)

/-- R80: a PIN-bound actuator whose pin is not mapped OUTPUT is FAILED. -/
theorem appliedTo_state_failed {p : PinIx} (h : isOutput (s.pin p).fn = false) {v : Nat} :
    ((appliedTo s a p v).actuator a).state = .failed := by
  unfold appliedTo
  rw [if_neg (Bool.eq_false_iff.mp h)]
  simp [State.actuator, withoutPin]

end Drain

/-- Settles O36: the drain's set by the way it ends, its pin's retry, and the load that would unmap its pin. -/
theorem drainFailureStopsTheRelease : Obligations.DrainFailureStopsTheRelease := by
  refine ⟨fun s x a t c hr hx hp hj ht hc ha cmd failed hway => ?_, fun s a t c p ms safe hr hm hst hcfg ht hc ha => ⟨fun hpin => ?_,
    fun hpin => ?_⟩, fun s t c p safe record tag rest ht hc hcfg h => ?_⟩
  · obtain ⟨status, reason, hcode, rfl, rfl⟩ | ⟨hcmd, hsecond, rfl⟩ | ⟨rfl, hfourth, rfl⟩ := hway
    · rw [exec_fieldReplyReceived hr hx hp, takeFrame_refuse (ne_poll_of_control hj) hcode, endRefused_control hj]
      obtain ⟨hsame, holder⟩ := drainFailed_afterRefusal_drain (s := s) (u := afterReply x.node 2 s) rfl rfl ht hc ha (.inl rfl) reason x.value
      exact ⟨fun hd => congrArg _ (hsame hd), fun hd => congrArg _ (holder hd)⟩
    · rw [exec_silent hr hx hp hcmd, silentAttempt_second hsecond, endFailed_control hj]
      obtain ⟨hsame, holder⟩ := drainFailed_afterRefusal_drain (afterFailure_tanks (s := s) x.node .silent)
        (afterFailure_actuator ..) ht hc ha (.inr rfl) .silent x.value
      exact ⟨fun hd => congrArg _ (hsame hd), fun hd => congrArg _ (holder hd)⟩
    · rw [exec_holdoff hr hx hp, takeHoldoff_fourth hfourth, endFailed_control hj]
      obtain ⟨hsame, holder⟩ := drainFailed_afterRefusal_drain (afterFailure_tanks (s := s) x.node .holdoffLimit)
        (afterFailure_actuator ..) ht hc ha (.inr rfl) .holdoffLimit x.value
      exact ⟨fun hd => congrArg _ (hsame hd), fun hd => congrArg _ (holder hd)⟩
  · rw [exec_retryTimerExpiry hr hm, retryExpired_pin hm hst hcfg]
    have hkept := appliedTo_tanks (s := s) a p (s.actuator a).desired
    refine congrArg _ (drainFailed_stops (.inr (appliedTo_state_failed hpin)) ((releasingTank_congr hkept).trans ht) ?_ ha)
    rw [State.tank, hkept]
    exact hc
  · rw [exec_retryTimerExpiry hr hm, retryExpired_pin hm hst hcfg]
    have hidle := appliedTo_state (a := a) hpin (v := (s.actuator a).desired)
    exact congrArg _ (drainFailed_of_state (by rw [hidle]; exact nofun) (by rw [hidle]; exact nofun))
  · refine loads_refuse (by decide) h rfl (loadPinRecord_busy (s := withRequests s rest) ?_)
    by_contra hfree
    exact not_drainsRelease_of_unused (s := withRequests s rest) hfree (boundToPin_iff.mpr ⟨safe, hcfg⟩) ⟨t, c, ht, hc, rfl⟩

end Sys2Proof.Machine
end


section
/-! How points age, are sampled, fail and take their readings: O42, O43. -/

namespace Sys2Proof.Machine

variable {s : State} {p : PointIx}

/-! ### Failing and ageing -/

theorem failPoint_of_failed (h : (s.point p).quality = .failed) (cause : FailCause) : failPoint p cause s = s := if_pos h

theorem failPoint_of_not_failed (h : (s.point p).quality ≠ .failed) (cause : FailCause) :
    failPoint p cause s =
      { s.setPoint p { s.point p with quality := .failed } with
        reports := s.reports.raise (.alert .pointFailed (.point p) [failCauseCode cause] s.clock) } :=
  (if_neg h).trans (raiseAlert_eq ..)

/-- R38: a loaded point of any quality but NONE at an age tick. -/
theorem agePoint_eq (x : Point) :
    agePoint x =
      match x.cfg with
      | none => x
      | some c =>
        if x.quality = .none then x
        else
          { x with
            age := min (x.age + 1) 65535
            quality :=
              if c.staleLimit < min (x.age + 1) 65535 ∧ (x.quality = .good ∨ x.quality = .limited) then .stale
              else x.quality } := by
  unfold agePoint
  rcases x.cfg with _ | c
  · rfl
  · simp [satAdd, Config.max16]

/-! ### Sampling -/

theorem sampleOf_eq (c : Conversion) :
    sampleOf c = if c.input < c.reference then BitVec.ofNat 12 (c.input * 4096 / c.reference) else 4095 := by
  simp only [sampleOf, ← Nat.not_lt, ite_not]

/-- R102: the record of a pin after its conversion. -/
def converted (c : Conversion) (x : Pin) : Pin := if x.fn = .analog then { x with sample := sampleOf c } else x

theorem convertPin_eq (l : PinIx) (c : Conversion) (s : State) : convertPin l c s = s.setPin l (converted c (s.pin l)) := by
  unfold convertPin converted
  split
  · rfl
  · exact (State.setPin_pin_eq ..).symm

/-- Two states that differ in no more than their pins, and in no pin, are the same. -/
theorem eq_of_pins {t u : State} (h : u = { t with pins := u.pins }) (hpins : ∀ l, u.pin l = t.pin l) : u = t := by
  have hvec : u.pins = t.pins := Vector.ext fun i hi => hpins ⟨i, hi⟩
  rw [h, hvec]

theorem conversionRound_touches (l8 l9 l10 l11 : Conversion) (s : State) :
    conversionRound l8 l9 l10 l11 s = { s with pins := (conversionRound l8 l9 l10 l11 s).pins } := by
  unfold conversionRound
  simp only [convertPin_eq]
  rfl

/-- R102: the round gives L8 to L11 their conversions and leaves the other pins. -/
theorem conversionRound_pin (l8 l9 l10 l11 : Conversion) (s : State) :
    (∀ l : PinIx, l.val < 8 → (conversionRound l8 l9 l10 l11 s).pin l = s.pin l) ∧
      (conversionRound l8 l9 l10 l11 s).pin 8 = converted l8 (s.pin 8) ∧
      (conversionRound l8 l9 l10 l11 s).pin 9 = converted l9 (s.pin 9) ∧
      (conversionRound l8 l9 l10 l11 s).pin 10 = converted l10 (s.pin 10) ∧
      (conversionRound l8 l9 l10 l11 s).pin 11 = converted l11 (s.pin 11) := by
  simp only [conversionRound, convertPin_eq, State.setPin_pin]
  refine ⟨fun l hl => ?_, by simp, by simp, by simp, by simp⟩
  have hne (m : PinIx) (hm : 8 ≤ m.val) : l ≠ m := fun e => by rw [e] at hl; omega
  rw [if_neg (hne 11 (by decide)), if_neg (hne 10 (by decide)), if_neg (hne 9 (by decide)), if_neg (hne 8 (by decide))]

theorem eq_conversionRound {t u : State} {l8 l9 l10 l11 : Conversion} (h : u = { t with pins := u.pins })
    (hlow : ∀ l : PinIx, l.val < 8 → u.pin l = t.pin l) (h8 : u.pin 8 = converted l8 (t.pin 8))
    (h9 : u.pin 9 = converted l9 (t.pin 9)) (h10 : u.pin 10 = converted l10 (t.pin 10))
    (h11 : u.pin 11 = converted l11 (t.pin 11)) : u = conversionRound l8 l9 l10 l11 t := by
  obtain ⟨klow, k8, k9, k10, k11⟩ := conversionRound_pin l8 l9 l10 l11 t
  refine eq_of_pins ?_ fun l => ?_
  · rw [conversionRound_touches]
    exact h
  · by_cases hl : l.val < 8
    · rw [hlow l hl, klow l hl]
    · obtain rfl | rfl | rfl | rfl : l = 8 ∨ l = 9 ∨ l = 10 ∨ l = 11 := by
        simp only [Fin.ext_iff]
        have := l.isLt
        change l.val = 8 ∨ l.val = 9 ∨ l.val = 10 ∨ l.val = 11
        omega
      · rw [h8, k8]
      · rw [h9, k9]
      · rw [h10, k10]
      · rw [h11, k11]

theorem handCounter_eq (p : PointIx) (n k : Nat) (s : State) : handCounter p n k s = s.setPoint p (counted n k (s.point p)) := by
  have hv : roundHalfUp (n * k) 100 = (2 * (n * k) + 100) / 200 := rfl
  unfold handCounter counted
  simp only [hv, setRaw, storeReading, State.setPoint_point_self, State.setPoint_setPoint, Config.max24]
  split
  · next h => rw [Nat.min_eq_left h]
  · next h => rw [Nat.min_eq_right (by omega)]

section Sampling

variable {c : PointCfg} {l : PinIx}

theorem samplePoint_analog (hc : (s.point p).cfg = some c) (hs : c.source = .analog l) :
    samplePoint p s = if (s.pin l).fn = .analog then takeRaw p (s.pin l).sample.toNat s else failPoint p .unmapped s := by
  obtain ⟨kind, source, curve, staleLimit, mirror⟩ := c
  cases hs
  simp only [samplePoint, hc]

theorem samplePoint_switch (hc : (s.point p).cfg = some c) (hs : c.source = .switch l) :
    samplePoint p s = if isInput (s.pin l).fn then takeSwitch p (s.pin l).debounced s else failPoint p .unmapped s := by
  obtain ⟨kind, source, curve, staleLimit, mirror⟩ := c
  cases hs
  simp only [samplePoint, hc]

theorem samplePoint_counter {q : CounterIx} {k : Nat} (hc : (s.point p).cfg = some c) (hs : c.source = .counter q k) :
    samplePoint p s = if counterMapped s q then s else failPoint p .unmapped s := by
  obtain ⟨kind, source, curve, staleLimit, mirror⟩ := c
  cases hs
  simp only [samplePoint, hc]

theorem samplePoint_field {n : NodeIx} {ch : Channel} (hc : (s.point p).cfg = some c) (hs : c.source = .field n ch) :
    samplePoint p s = s := by
  obtain ⟨kind, source, curve, staleLimit, mirror⟩ := c
  cases hs
  simp only [samplePoint, hc]

theorem isInput_iff {f : PinFn} : isInput f = true ↔ ∃ inv d, f = .input inv d := by cases f <;> simp [isInput]

end Sampling

/-- Settles O42, part by part. -/
theorem pointsAgeAndAreSampled : Obligations.PointsAgeAndAreSampled := by
  refine ⟨fun s hr => ?_, fun s s' l8 l9 l10 l11 hr _ => ?_, fun s p n k => handCounter_eq p n k s,
    fun s p => ⟨fun h => failPoint_of_failed h _, fun h => failPoint_of_not_failed h _⟩, fun s p c hc => ⟨?_, ?_, ?_, ?_⟩⟩
  · simp only [exec, execAgeTimerExpiry]
    rw [live_of_not_inReset hr, eachOf_eq_map]
    exact congrArg (fun f => Host.Outcome.next { s with points := s.points.map f, timers := { s.timers with age := 1000 } })
      (funext agePoint_eq)
  · intro sample hs' hlow h8 h9 h10 h11
    simp only [exec, execAnalogSamplingRound]
    rw [live_of_not_inReset hr]
    have hsample (l : PinIx) (c : Conversion) : sample l c = converted c (s.pin l) := by
      simp only [sample, converted, sampleOf_eq]
    rw [eq_conversionRound (t := s.setTimers { s.timers with sampling := 100 }) hs' hlow (h8.trans (hsample 8 l8))
      (h9.trans (hsample 9 l9)) (h10.trans (hsample 10 l10)) (h11.trans (hsample 11 l11))]
    rfl
  · intro l hs hl
    rw [samplePoint_analog hc hs, if_pos hl]
  · intro l inv d hs hl
    rw [samplePoint_switch hc hs, if_pos (isInput_iff.mpr ⟨inv, d, hl⟩)]
    rfl
  · rintro (⟨l, hs, hl⟩ | ⟨l, hs, hl⟩ | ⟨q, k, hs, hq⟩)
    · rw [samplePoint_analog hc hs, if_neg hl]
    · rw [samplePoint_switch hc hs, if_neg fun h => ?_]
      obtain ⟨inv, d, h⟩ := isInput_iff.mp h
      exact hl inv d h
    · rw [samplePoint_counter hc hs, if_neg (Bool.not_eq_true _ ▸ hq)]
  · rintro (⟨n, ch, hs⟩ | ⟨q, k, hs, hq⟩)
    · exact samplePoint_field hc hs
    · rw [samplePoint_counter hc hs, if_pos hq]

/-! ### Readings -/

/-- R37: a point that has taken a raw figure and fails. -/
theorem failPoint_setRaw (raw : Int) (cause : FailCause) :
    failPoint p cause (setRaw p raw s) =
      if (s.point p).quality = .failed then s.setPoint p { s.point p with lastRaw := raw }
      else
        { s.setPoint p { s.point p with lastRaw := raw, quality := .failed } with
          reports := s.reports.raise (.alert .pointFailed (.point p) [failCauseCode cause] s.clock) } := by
  have hq : ((setRaw p raw s).point p).quality = (s.point p).quality := by simp [setRaw]
  by_cases h : (s.point p).quality = .failed
  · rw [if_pos h, failPoint_of_failed (hq.trans h)]
    rfl
  · rw [if_neg h, failPoint_of_not_failed (s := setRaw p raw s) (by rwa [hq]) cause]
    simp only [setRaw, State.setPoint_point_self, State.setPoint_setPoint]
    rfl

section Reading

variable {c : PointCfg} {raw : Int}

theorem takeRaw_noCurve (hc : (s.point p).cfg = some c) (h : convert s c raw = none) :
    takeRaw p raw s = failPoint p .noCurve (setRaw p raw s) := by
  have h' : convert (setRaw p raw s) c raw = none := h
  simp only [takeRaw, hc, h']

theorem takeRaw_converted {v : Nat} {q : Quality} (hc : (s.point p).cfg = some c) (h : convert s c raw = some (v, q)) :
    takeRaw p raw s = acceptReading p v q (setRaw p raw s) := by
  have h' : convert (setRaw p raw s) c raw = some (v, q) := h
  simp only [takeRaw, hc, h']

theorem storeReading_setRaw (v : Nat) (q : Quality) :
    storeReading p v q (setRaw p raw s) = s.setPoint p { s.point p with value := v, quality := q, age := 0, lastRaw := raw } := by
  simp [storeReading, setRaw]

/-- R43, R44: a reading stored, mirrored and handed on. -/
theorem acceptReading_setRaw (hc : (s.point p).cfg = some c) (v : Nat) (q : Quality) :
    acceptReading p v q (setRaw p raw s) =
      effluentReading p v
        (testSamples p v
          (if c.mirror then
            { s.setPoint p { s.point p with value := v, quality := q, age := 0, lastRaw := raw } with
              reports := s.reports.raise (.mirror p v q raw s.clock) }
           else s.setPoint p { s.point p with value := v, quality := q, age := 0, lastRaw := raw })) := by
  have hm : mirror p (s.setPoint p { s.point p with value := v, quality := q, age := 0, lastRaw := raw }) =
      if c.mirror then
        { s.setPoint p { s.point p with value := v, quality := q, age := 0, lastRaw := raw } with
          reports := s.reports.raise (.mirror p v q raw s.clock) }
      else s.setPoint p { s.point p with value := v, quality := q, age := 0, lastRaw := raw } := by
    unfold mirror
    simp only [State.setPoint_point_self, hc, Option.any_some]
    rfl
  rw [acceptReading, storeReading_setRaw, hm]
  rfl

theorem convert_eq_none {i : CurveIx} (hi : c.curve = some i) (h : s.curve i = []) : convert s c raw = none := by
  simp [convert, hi, h]

theorem convert_direct (h : c.curve = none) : convert s c raw = some (kindClamp c.kind (raw.toNat, decide (raw < 0))) := by
  simp [convert, h, direct]

theorem convert_curve {i : CurveIx} (hi : c.curve = some i) (h : s.curve i ≠ []) :
    convert s c raw = some (kindClamp c.kind (onCurve raw (s.curve i))) := by simp [convert, hi, h]

end Reading

/-- Settles O43, by what the source delivers and by the curve. -/
theorem readingsReachTheirPoint : Obligations.ReadingsReachTheirPoint := by
  intro s p n ch raw fault
  refine ⟨fun h => if_neg (fieldSource_iff.not.mpr h), fun h hf => ?_, fun h hf => ?_, fun c hc => ⟨fun i hi hempty => ?_, ?_⟩⟩
  · rw [deliverReading, if_pos (fieldSource_iff.mpr h), if_pos hf, failPoint_setRaw]
    rfl
  · rw [deliverReading, if_pos (fieldSource_iff.mpr h), if_neg (by simp [hf])]
  · rw [takeRaw_noCurve hc (convert_eq_none hi hempty), failPoint_setRaw]
    rfl
  · intro v q hvq
    have hconv : convert s c raw = some (v, q) := by
      rcases hvq with ⟨hcurve, hvq⟩ | ⟨i, hi, hne, hvq⟩
      · rw [convert_direct hcurve, hvq]
      · rw [convert_curve hi hne, hvq]
    rw [takeRaw_converted hc hconv, acceptReading_setRaw hc]
    rfl

end Sys2Proof.Machine
end


section
/-! The events of the pins, and what a counter counts: O45. -/

namespace Sys2Proof.Machine

variable {s : State} {q : CounterIx}

/-! ### The pin of a counter -/

theorem findSome?_finRange_eq_some {n : Nat} {α : Type} {f : Fin n → Option α} {b : α} :
    (List.finRange n).findSome? f = some b ↔ ∃ i, f i = some b ∧ ∀ j, j < i → f j = none := by
  have hfirst {b : α} (h : (List.finRange n).findSome? f = some b) : ∃ i, f i = some b ∧ ∀ j, j < i → f j = none := by
    obtain ⟨front, i, back, hsplit, hi, hfront⟩ := List.findSome?_eq_some_iff.mp h
    refine ⟨i, hi, fun j hj => ?_⟩
    have hsorted := List.pairwise_lt_finRange n
    rw [hsplit, List.pairwise_append, List.pairwise_cons] at hsorted
    obtain ⟨-, ⟨hback, -⟩, -⟩ := hsorted
    have hmem : j ∈ front ++ i :: back := hsplit ▸ List.mem_finRange j
    rcases List.mem_append.mp hmem with hj' | hj'
    · exact hfront j hj'
    · rcases List.mem_cons.mp hj' with rfl | hj'
      · exact absurd hj (lt_irrefl _)
      · exact absurd hj (lt_asymm (hback j hj'))
  refine ⟨hfirst, fun ⟨i, hi, hlow⟩ => ?_⟩
  cases hres : (List.finRange n).findSome? f with
  | none => simp [List.findSome?_eq_none_iff.mp hres i (List.mem_finRange i)] at hi
  | some a =>
    obtain ⟨k, hk, hkl⟩ := hfirst hres
    rcases lt_trichotomy i k with h | h | h
    · simp [hkl i h] at hi
    · rw [← hk, ← h, hi]
    · simp [hlow k h] at hk

theorem counterFn_iff {f : PinFn} {c : Bool} : counterFn f = some (q, c) ↔ ∃ edge, f = .counter q edge c := by
  cases f <;> simp [counterFn]

/-- R94: what a pin says of a counter, if it is mapped on it. -/
def mappingOf (s : State) (q : CounterIx) (l : PinIx) : Option (PinIx × Bool) :=
  match counterFn (s.pin l).fn with
  | some (r, c) => if r = q then some (l, c) else none
  | none => none

theorem counterPin_eq (s : State) (q : CounterIx) : counterPin s q = (List.finRange 12).findSome? (mappingOf s q) := rfl

theorem mappingOf_eq_some {l m : PinIx} {c : Bool} :
    mappingOf s q l = some (m, c) ↔ l = m ∧ ∃ edge, (s.pin l).fn = .counter q edge c := by
  unfold mappingOf
  rw [← counterFn_iff]
  rcases counterFn (s.pin l).fn with _ | ⟨r, d⟩
  · simp
  · by_cases h : r = q <;> simp [h]

theorem mappingOf_eq_none {l : PinIx} : mappingOf s q l = none ↔ ∀ edge c, (s.pin l).fn ≠ .counter q edge c := by
  rw [Option.eq_none_iff_forall_not_mem]
  refine ⟨fun h edge c hf => h (l, c) (mappingOf_eq_some.mpr ⟨rfl, edge, hf⟩), fun h ⟨m, c⟩ hm => ?_⟩
  obtain ⟨-, edge, hf⟩ := mappingOf_eq_some.mp hm
  exact h edge c hf

theorem counterPin_iff {l : PinIx} {c : Bool} : counterPin s q = some (l, c) ↔ MappedOn s l q c := by
  rw [counterPin_eq, findSome?_finRange_eq_some]
  simp only [mappingOf_eq_some, mappingOf_eq_none, MappedOn]
  exact ⟨fun ⟨_, ⟨hl, hf⟩, hlow⟩ => hl ▸ ⟨hf, fun m edge c hm => hlow m hm edge c⟩,
    fun ⟨hf, hlow⟩ => ⟨l, ⟨rfl, hf⟩, fun m hm edge c => hlow m edge c hm⟩⟩

theorem cascaded_iff : cascaded s q = true ↔ Cascaded s q := by
  simp [cascaded, Cascaded, Option.any_eq_true, counterPin_iff]

theorem evenPartner_iff : ∀ q r : CounterIx, q.val % 2 = 1 → (r = evenPartner q ↔ q.val = r.val + 1) := by decide

theorem counterMapped_iff : counterMapped s q = true ↔ Mapped s q := by
  have hpair : (isOdd q && cascaded s (evenPartner q)) = true ↔ q.val % 2 = 1 ∧ ∃ r, Cascaded s r ∧ q.val = r.val + 1 := by
    rw [Bool.and_eq_true, cascaded_iff]
    simp only [isOdd, decide_eq_true_eq]
    exact and_congr_right fun h =>
      ⟨fun hc => ⟨_, hc, (evenPartner_iff q _ h).mp rfl⟩, fun ⟨r, hc, hr⟩ => (evenPartner_iff q r h).mpr hr ▸ hc⟩
  simp only [counterMapped, Bool.and_eq_true, Bool.not_eq_true', ← Bool.not_eq_true, hpair, Mapped,
    Option.isSome_iff_exists, Prod.exists, counterPin_iff]

/-! ### What a counter counts -/

theorem counterValue_single (h : ¬ Cascaded s q) : counterValue s q = (s.counter q).toNat := if_neg (cascaded_iff.not.mpr h)

theorem counterValue_pair {r : CounterIx} (h : Cascaded s q) (hq : q.val % 2 = 0) (hr : r.val = q.val + 1) :
    counterValue s q = (s.counter r).toNat * 65536 + (s.counter q).toNat := by
  rw [(oddPartner_iff q r hq).mpr hr]
  exact if_pos (cascaded_iff.mpr h)

/-- R13: the difference of two readings of a counter of modulus `m`. -/
theorem difference_mod (value snapshot : Nat) {m : Nat} (hm : 0 < m) :
    (value + m - snapshot % m) % m < m ∧ (snapshot + (value + m - snapshot % m) % m) % m = value % m := by
  have hlt := Nat.mod_lt snapshot hm
  refine ⟨Nat.mod_lt _ hm, ?_⟩
  rw [← Nat.mod_add_mod, Nat.add_mod_mod, show snapshot % m + (value + m - snapshot % m) = value + m by omega,
    Nat.add_mod_right]

theorem pulsesSince_single (h : ¬ Cascaded s q) (snapshot : Nat) :
    pulsesSince s q snapshot < 2 ^ 16 ∧ (snapshot + pulsesSince s q snapshot) % 2 ^ 16 = counterValue s q % 2 ^ 16 := by
  have hm : counterModulus s q = 2 ^ 16 := if_neg (cascaded_iff.not.mpr h)
  simp only [pulsesSince, hm]
  exact difference_mod _ _ (by norm_num)

theorem pulsesSince_pair (h : Cascaded s q) (snapshot : Nat) :
    pulsesSince s q snapshot < 2 ^ 32 ∧ (snapshot + pulsesSince s q snapshot) % 2 ^ 32 = counterValue s q % 2 ^ 32 := by
  have hm : counterModulus s q = 2 ^ 32 := if_pos (cascaded_iff.mpr h)
  simp only [pulsesSince, hm]
  exact difference_mod _ _ (by norm_num)

/-! ### Levels and debounce -/

section Levels

variable {x : Pin} {inv : Bool} {d : Nat}

theorem levelChanged_at_once (level : Bool) (h : x.fn = .input inv 0) :
    levelChanged level x = { x with level := level, debounced := xor level inv } := by simp only [levelChanged, h, activeLevel]

theorem levelChanged_debounced (level : Bool) (h : x.fn = .input inv d) (hd : d ≠ 0) :
    levelChanged level x = { x with level := level, debounce := some d } := by
  obtain ⟨d, rfl⟩ := Nat.exists_eq_succ_of_ne_zero hd
  simp only [levelChanged, h]

theorem levelChanged_other (level : Bool) (h : ∀ inv d, x.fn ≠ .input inv d) :
    levelChanged level x = { x with level := level } := by
  unfold levelChanged
  split
  · next hf => exact absurd hf (h _ _)
  · next hf => exact absurd hf (h _ _)
  · rfl

theorem debounceExpired_input {ms : Nat} (h : x.fn = .input inv d) (hms : x.debounce = some ms) :
    debounceExpired x = { x with debounced := xor x.level inv, debounce := none } := by
  simp only [debounceExpired, h, hms, Option.isSome_some, if_true, activeLevel]

end Levels

/-! ### Counting edges -/

theorem qualifies_iff {edge : Edge} {level : Bool} :
    qualifies edge level = true ↔ edge = .both ∨ (edge = .rising ∧ level = true) ∨ (edge = .falling ∧ level = false) := by
  cases edge <;> simp [qualifies]

theorem add_one_eq_zero_iff (x : BitVec 16) : x + 1 = 0 ↔ x = 65535 := by
  constructor <;> intro h <;> bv_omega

theorem countPulse_plain {cascade : Bool} (h : cascade = false ∨ s.counter q ≠ 65535) :
    countPulse q cascade s = s.setCounter q (s.counter q + 1) := by
  refine if_neg ?_
  rw [Bool.and_eq_true, decide_eq_true_eq, add_one_eq_zero_iff]
  rintro ⟨hc, hv⟩
  rcases h with h | h
  · simp [h] at hc
  · exact h hv

theorem countPulse_carry (hodd : oddPartner q ≠ q) (h : s.counter q = 65535) :
    countPulse q true s = (s.setCounter q 0).setCounter (oddPartner q) (s.counter (oddPartner q) + 1) := by
  have hlow : s.counter q + 1 = 0 := (add_one_eq_zero_iff _).mpr h
  unfold countPulse
  simp only [hlow, Bool.true_and, decide_true, if_true, State.setCounter_counter_ne _ _ _ _ hodd]

theorem exec_counterEdge {p : PinIx} {level : Bool} {edge : Edge} {cascade : Bool} (hr : s.inReset = false)
    (hf : (s.pin p).fn = .counter q edge cascade) :
    exec (.counterEdge p level) s =
      .next
        (if qualifies edge level then countPulse q cascade (s.setPin p { s.pin p with level := level })
         else s.setPin p { s.pin p with level := level }) := by
  simp only [exec, execCounterEdge]
  rw [live_of_not_inReset (s := s.setPin p { s.pin p with level := level }) hr]
  simp only [State.setPin_pin_self, hf]

/-! ### Generators -/

theorem highCount_sum (d : Nat) :
    highCount d 0 + highCount d 1 + highCount d 2 + highCount d 3 = d := by
  simp only [highCount]
  split_ifs <;> omega

theorem highCount_le {d : Nat} (h : d ≤ 1023) (n : Nat) : highCount d n ≤ 256 := by
  unfold highCount
  dsimp only
  split <;> (try split) <;> omega

/-- R125: the high counts of the duty `4 × b + e`. -/
theorem highCount_table (b : Nat) {e : Nat} (he : e < 4) :
    highCount (4 * b + e) 0 = (if e = 0 then b else b + 1) ∧ highCount (4 * b + e) 1 = (if e = 3 then b + 1 else b) ∧
      highCount (4 * b + e) 2 = (if e = 2 ∨ e = 3 then b + 1 else b) ∧ highCount (4 * b + e) 3 = b := by
  have hb : (4 * b + e) / 4 = b := by omega
  have hrest : 4 * b + e - 4 * b = e := by omega
  simp only [highCount, hb, hrest]
  refine ⟨?_, trivial, ?_, trivial⟩ <;> split_ifs <;> omega

theorem generatorOutput_iff (x : Cell) (n c : Nat) :
    generatorOutput x n c = true ↔ (∃ y, x.cfg = some y) ∧ c < highCount x.latchedDuty n := by
  simp [generatorOutput, Option.isSome_iff_exists]

/-- Settles O45, event by event. -/
theorem pinsFollowTheirEvents : Obligations.PinsFollowTheirEvents := by
  refine ⟨fun s q => ⟨counterMapped_iff, counterValue_single, fun r => counterValue_pair, fun snapshot =>
    ⟨fun h => pulsesSince_single h snapshot, fun h => pulsesSince_pair h snapshot⟩⟩, fun s p level => ⟨fun inv hf => ?_,
    fun inv d hf hd => ?_, fun hf => ?_, fun inv d ms hr hf hms => ?_, fun q edge cascade hr hf => ⟨fun hc => ?_, fun hc hlow => ?_,
      fun hc hcas hodd hq => ?_⟩, fun e c hr hc => ?_, fun d hd => ⟨highCount_sum d, fun n _ => highCount_le hd n⟩,
    fun b e he => highCount_table b he, fun e n c => ⟨generatorOutput_iff _ n c, fun inv => ⟨fun hf => ?_, fun hf => ?_⟩⟩⟩⟩
  · simp only [exec, execPinLevelChange, levelChanged_at_once level hf]
  · simp only [exec, execPinLevelChange, levelChanged_debounced level hf hd]
  · simp only [exec, execPinLevelChange, levelChanged_other level hf]
  · simp only [exec, execDebounceTimerExpiry]
    rw [live_of_not_inReset hr, debounceExpired_input hf hms]
  · rw [exec_counterEdge hr hf, if_neg (qualifies_iff.not.mpr hc)]
  · rw [exec_counterEdge hr hf, if_pos (qualifies_iff.mpr hc), countPulse_plain (s := s.setPin p { s.pin p with level := level }) hlow]
    rfl
  · rw [exec_counterEdge hr hf, if_pos (qualifies_iff.mpr hc), hcas, countPulse_carry (s := s.setPin p { s.pin p with level := level }) hodd hq]
    rfl
  · simp only [exec, execPwmFrameStart]
    rw [live_of_not_inReset hr]
    simp only [hc, Option.isSome_some, if_true]
  · simp only [pinLevel, hf]
  · simp only [pinLevel, hf, drivenLevel]

end Sys2Proof.Machine
end


section
/-! The metering of a chain: O49. -/

namespace Sys2Proof.Machine

variable {s : State} {k : ChainIx} {c : ChainCfg} {x : Chain} {isA : Bool}

/-! ### The parts of a metering -/

/-- R139, R140: parts 1 and 2, with the timer started again. -/
theorem meterTail_eq (ct : Option Nat) (x : Chain) : meterTail ct { x with metering := some 1000 } = tailMetered ct x := by
  unfold meterTail tailMetered creditTail
  dsimp only
  split <;> rfl

/-- The tail mass changes no position's state. -/
theorem tailMetered_state (ct : Option Nat) (x : Chain) (isA : Bool) : (posOf (tailMetered ct x) isA).state = (posOf x isA).state := by
  unfold tailMetered
  split
  · rfl
  · split_ifs <;> cases isA <;> rfl

theorem hasLead_iff_posOf : hasLead x = true ↔ ∃ isA, (posOf x isA).state = .lead := by
  simp [hasLead, posOf, Bool.exists_bool, or_comm]

theorem hasLead_tailMetered (ct : Option Nat) : hasLead (tailMetered ct (s.chain k)) = true ↔ HasLead s k := by
  rw [← hasLead_iff, hasLead_iff_posOf, hasLead_iff_posOf]
  simp only [tailMetered_state]

/-- R137: the order value of a position. -/
def orderValue (c : ChainCfg) (isA : Bool) : Nat := if isA then c.aFirst else c.bFirst

theorem leadValue_of_lead (h : (posOf x isA).state = .lead) (hother : (posOf x (!isA)).state ≠ .lead) :
    leadValue c x = some (orderValue c isA) := by
  cases isA with
  | true => exact if_pos h
  | false => exact (if_neg hother).trans (if_pos h)

theorem leadValue_of_none (h : ∀ isA, (posOf x isA).state ≠ .lead) : leadValue c x = none :=
  (if_neg (h true)).trans (if_neg (h false))

/-- R142: a lead spent before a LAG. -/
theorem spend_before_lag (h : (posOf x (!isA)).state = .lag) :
    spend isA x =
      setPos (setPos { x with run := 0 } isA { posOf x isA with state := .spent }) (!isA) { posOf x (!isA) with state := .lead } := by
  cases isA with
  | true =>
    have hb : x.posB.state = .lag := h
    simp [spend, setPos, posOf, hb]
  | false =>
    have ha : x.posA.state = .lag := h
    simp [spend, setPos, posOf, ha]

/-- R142: a lead spent with no LAG behind it. -/
theorem spend_exhausted (h : (posOf x (!isA)).state ≠ .lag) :
    spend isA x = setPos { x with run := 0 } isA { posOf x isA with state := .spent } := by
  cases isA with
  | true =>
    have hb : x.posB.state ≠ .lag := h
    simp [spend, setPos, posOf, hb]
  | false =>
    have ha : x.posA.state ≠ .lag := h
    simp [spend, setPos, posOf, ha]

theorem posOf_setPos_self (p : Position) : posOf (setPos x isA p) isA = p := by cases isA <;> rfl

theorem posOf_setPos_other (p : Position) : posOf (setPos x isA p) (!isA) = posOf x (!isA) := by cases isA <;> rfl

theorem posOf_setPos_other' (p : Position) : posOf (setPos x (!isA) p) isA = posOf x isA := by cases isA <;> rfl

/-! ### The test of the lead -/

theorem spentCause_eq_zero {lead : Position} : spentCause c x lead = 0 ↔ ¬ c.count ≤ x.run ∧ ¬ lead.capacity * c.swap ≤ lead.loading * 1000 := by
  unfold spentCause brokenThrough capacityReached
  simp only [decide_eq_true_eq]
  split_ifs <;> simp [*]

theorem spentCause_eq {lead : Position} {cause : Nat}
    (h : (c.count ≤ x.run ∧ ¬ lead.capacity * c.swap ≤ lead.loading * 1000 ∧ cause = 1) ∨
      (¬ c.count ≤ x.run ∧ lead.capacity * c.swap ≤ lead.loading * 1000 ∧ cause = 2) ∨
      (c.count ≤ x.run ∧ lead.capacity * c.swap ≤ lead.loading * 1000 ∧ cause = 3)) :
    spentCause c x lead = cause := by
  unfold spentCause brokenThrough capacityReached
  simp only [decide_eq_true_eq]
  rcases h with ⟨h1, h2, rfl⟩ | ⟨h1, h2, rfl⟩ | ⟨h1, h2, rfl⟩ <;> simp [h1, h2]

/-- R142: the figures of a spent lead. -/
def spentFigures (c : ChainCfg) (x : Chain) (isA : Bool) : List Nat :=
  [if isA then 1 else 2, spentCause c x (posOf x isA), (posOf x isA).loading, (posOf x isA).capacity]

theorem testLead_kept (h : spentCause c (s.chain k) (posOf (s.chain k) isA) = 0) : testLead k c isA s = s := if_pos h

theorem testLead_spent (h : spentCause c (s.chain k) (posOf (s.chain k) isA) ≠ 0) :
    testLead k c isA s = spentEffects k c (spentFigures c (s.chain k) isA) (s.setChain k (spend isA (s.chain k))) := if_neg h

theorem orderRequest_of_lead {v : Nat} (h : leadValue c (s.chain k) = some v) :
    orderRequest k c s = if (s.actuator c.order).desired = v then s else ownerRequest c.order v s := by
  unfold orderRequest
  rw [h]

theorem orderRequest_of_none (h : leadValue c (s.chain k) = none) : orderRequest k c s = s := by
  unfold orderRequest
  rw [h]

section Lead

variable (hlead : (posOf (s.chain k) isA).state = .lead) (hother : (posOf (s.chain k) (!isA)).state ≠ .lead)

include hlead hother in
/-- R139: a lead that is not spent. -/
theorem orderRequest_kept (h : spentCause c (s.chain k) (posOf (s.chain k) isA) = 0) :
    orderRequest k c (testLead k c isA s) =
      if (s.actuator c.order).desired = orderValue c isA then s else ownerRequest c.order (orderValue c isA) s := by
  rw [testLead_kept h, orderRequest_of_lead (leadValue_of_lead hlead hother)]

/-- R142: the state once the LAG behind a spent lead has become LEAD, with its request and its alert. -/
def afterSwap (k : ChainIx) (c : ChainCfg) (isA : Bool) (detail : List Nat) (y : Chain) (s : State) : State :=
  let swapped := ownerRequest c.order (orderValue c (!isA)) (s.setChain k y)
  { swapped with reports := swapped.reports.raise (.alert .cartridgeSpent (.chain k) detail s.clock) }

/-- R142: a spent lead with a LAG behind it. -/
theorem orderRequest_swapped (h : spentCause c (s.chain k) (posOf (s.chain k) isA) ≠ 0)
    (hlag : (posOf (s.chain k) (!isA)).state = .lag) :
    orderRequest k c (testLead k c isA s) =
      let told := afterSwap k c isA (spentFigures c (s.chain k) isA)
        (setPos (setPos { s.chain k with run := 0 } isA { posOf (s.chain k) isA with state := .spent }) (!isA)
          { posOf (s.chain k) (!isA) with state := .lead }) s
      if (told.actuator c.order).desired = orderValue c (!isA) then told
      else ownerRequest c.order (orderValue c (!isA)) told := by
  have hvalue : leadValue c (spend isA (s.chain k)) = some (orderValue c (!isA)) := by
    rw [spend_before_lag hlag]
    refine leadValue_of_lead (by rw [posOf_setPos_self]) ?_
    rw [Bool.not_not, posOf_setPos_other', posOf_setPos_self]
    nofun
  have htold : spentEffects k c (spentFigures c (s.chain k) isA) (s.setChain k (spend isA (s.chain k))) =
      afterSwap k c isA (spentFigures c (s.chain k) isA) (spend isA (s.chain k)) s := by
    unfold spentEffects afterSwap
    rw [State.setChain_chain_self, hvalue]
    simp only [raiseAlert_eq, ownerRequest_clock]
    rfl
  have hchain : (afterSwap k c isA (spentFigures c (s.chain k) isA) (spend isA (s.chain k)) s).chain k = spend isA (s.chain k) :=
    (ownerRequest_chain (s := s.setChain k (spend isA (s.chain k))) ..).trans (State.setChain_chain_self ..)
  rw [testLead_spent h, htold, orderRequest_of_lead (hchain.symm ▸ hvalue), spend_before_lag hlag]

include hother in
/-- R142: a spent lead of an exhausted chain. -/
theorem orderRequest_exhausted (h : spentCause c (s.chain k) (posOf (s.chain k) isA) ≠ 0)
    (hlag : (posOf (s.chain k) (!isA)).state ≠ .lag) :
    orderRequest k c (testLead k c isA s) =
      { s.setChain k (setPos { s.chain k with run := 0 } isA { posOf (s.chain k) isA with state := .spent }) with
        reports := s.reports.raise (.alert .chainExhausted (.chain k) (spentFigures c (s.chain k) isA) s.clock) } := by
  have hvalue : leadValue c (spend isA (s.chain k)) = none := by
    rw [spend_exhausted hlag]
    refine leadValue_of_none fun pos => ?_
    obtain rfl | rfl : pos = isA ∨ pos = !isA := by cases pos <;> cases isA <;> simp
    · rw [posOf_setPos_self]
      nofun
    · rw [posOf_setPos_other]
      exact hother
  have htold : spentEffects k c (spentFigures c (s.chain k) isA) (s.setChain k (spend isA (s.chain k))) =
      { s.setChain k (spend isA (s.chain k)) with
        reports := s.reports.raise (.alert .chainExhausted (.chain k) (spentFigures c (s.chain k) isA) s.clock) } := by
    unfold spentEffects
    rw [State.setChain_chain_self, hvalue]
    simp only [raiseAlert_eq]
    rfl
  rw [testLead_spent h, htold, orderRequest_of_none (by rw [← hvalue]; exact congrArg _ (State.setChain_chain_self ..)),
    spend_exhausted hlag]

end Lead

/-! ### The metering timer -/

theorem exec_chainMetering {ms : Nat} (hr : s.inReset = false) (hc : (s.chain k).cfg = some c)
    (hm : (s.chain k).metering = some ms) : exec (.chainMetering k) s = .next (meterChain k c s) := by
  simp only [exec, execChainMetering]
  rw [live_of_not_inReset hr]
  simp only [chainExpired, hc, hm, Option.isSome_some, if_true]

theorem meterChain_idle (h : ¬ HasLead s k) :
    meterChain k c s = s.setChain k (tailMetered (tailConc s c) (s.chain k)) := by
  simp only [meterChain, Config.secondMs, meterTail_eq, State.setChain_chain_self]
  exact if_neg ((hasLead_tailMetered _).not.mpr h)

/-- R139: the chain at part 4: the tail mass and the breakthrough run have been taken. -/
def meteredChain (c : ChainCfg) (ct : Option Nat) (x : Chain) : Chain :=
  { tailMetered ct x with run := runAfterMetering c ct (tailMetered ct x).run }

theorem meteredChain_state (ct : Option Nat) (x : Chain) (isA : Bool) :
    (posOf (meteredChain c ct x) isA).state = (posOf x isA).state := by
  rw [← tailMetered_state ct x isA]
  cases isA <;> rfl

theorem meterChain_lead (hlead : (posOf (s.chain k) isA).state = .lead) (hother : (posOf (s.chain k) (!isA)).state ≠ .lead) :
    meterChain k c s =
      orderRequest k c (testLead k c isA (s.setChain k (meteredChain c (tailConc s c) (s.chain k)))) := by
  have hhas : HasLead s k := hasLead_iff.mp (hasLead_iff_posOf.mpr ⟨isA, hlead⟩)
  have hside : decide ((meteredChain c (tailConc s c) (s.chain k)).posA.state = .lead) = isA := by
    have ha := meteredChain_state (c := c) (tailConc s c) (s.chain k) true
    rw [show (meteredChain c (tailConc s c) (s.chain k)).posA.state = (s.chain k).posA.state from ha]
    cases isA with
    | true => exact decide_eq_true hlead
    | false => exact decide_eq_false hother
  simp only [meterChain, Config.secondMs, meterTail_eq, State.setChain_chain_self]
  rw [if_pos ((hasLead_tailMetered _).mpr hhas)]
  simp only [meterLead, countRun_eq, State.setChain_chain_self, State.setChain_setChain]
  change orderRequest k c (testLead k c (decide ((meteredChain c (tailConc s c) (s.chain k)).posA.state = .lead)) _) = _
  rw [hside]
  rfl

/-- Settles O49, by the lead's position and by what spends it. -/
theorem chainMeteringSpendsTheLead : Obligations.ChainMeteringSpendsTheLead := by
  intro s k c ms ct hr hc hm hct
  obtain rfl : ct = tailConc s c := hct
  refine ⟨fun h => by rw [exec_chainMetering hr hc hm, meterChain_idle h], fun isA hlead hother => ?_⟩
  intro lead run broken full
  rw [exec_chainMetering hr hc hm, meterChain_lead hlead hother]
  generalize ht : s.setChain k (meteredChain c (tailConc s c) (s.chain k)) = t
  have hchain : t.chain k = meteredChain c (tailConc s c) (s.chain k) := by rw [← ht, State.setChain_chain_self]
  have hl : (posOf (t.chain k) isA).state = .lead := by rw [hchain, meteredChain_state, hlead]
  have ho : (posOf (t.chain k) (!isA)).state ≠ .lead := by rwa [hchain, meteredChain_state]
  have hpos : posOf (t.chain k) isA = lead := by
    rw [hchain]
    cases isA <;> rfl
  have hrun : (t.chain k).run = run := by rw [hchain]; rfl
  have hcause : spentCause c (t.chain k) (posOf (t.chain k) isA) = 0 ↔ ¬ broken ∧ ¬ full := by rw [spentCause_eq_zero, hrun, hpos]
  refine ⟨fun hb hf => ?_, fun hbf cause hk => ?_⟩
  · rw [orderRequest_kept hl ho (hcause.mpr ⟨hb, hf⟩)]
    subst ht
    rfl
  · have hspent : spentCause c (t.chain k) (posOf (t.chain k) isA) ≠ 0 := fun h => by
      obtain ⟨hb, hf⟩ := hcause.mp h
      exact hbf.elim hb hf
    have hk' : spentCause c (t.chain k) (posOf (t.chain k) isA) = cause := spentCause_eq (by rw [hrun, hpos]; exact hk)
    intro detail spent
    have hdetail : spentFigures c (t.chain k) isA = detail := by
      unfold spentFigures
      rw [hk', hpos]
    have hstate : (posOf (t.chain k) (!isA)).state = (posOf (s.chain k) (!isA)).state := by rw [hchain, meteredChain_state]
    refine ⟨fun hlag => ?_, fun hlag => ?_⟩
    · rw [orderRequest_swapped hspent (hstate.trans hlag), hdetail, hpos, hchain]
      subst ht
      simp only [afterSwap, State.setChain_setChain]
      cases isA <;> rfl
    · rw [orderRequest_exhausted ho hspent (hstate ▸ hlag), hdetail, hpos, hchain]
      subst ht
      rw [State.setChain_setChain]
      rfl

end Sys2Proof.Machine
end


section
/-! Rework, tests and the timers of the tanks: O50, O51, O52. -/

namespace Sys2Proof.Machine

variable {s : State} {t : TankIx} {c : TankCfg} {b : Batch}

/-! ### Entry into rework -/

/-- R161: the snapshot of the counter that a point names; 0 without a mapped one. -/
def snapshotOf (s : State) (p : PointIx) : Nat :=
  match counterSource (s.point p) with
  | some (q, _) => if counterMapped s q then counterValue s q else 0
  | none => 0

theorem eq_snapshotOf {p : PointIx} {snapshot : Nat}
    (hon : ∀ q k, OnCounter s p q k → snapshot = if counterMapped s q then counterValue s q else 0)
    (hno : NoCounter s p → snapshot = 0) : snapshot = snapshotOf s p := by
  unfold snapshotOf
  rcases h : counterSource (s.point p) with _ | ⟨q, k⟩
  · exact hno (counterSource_none.mp h)
  · exact hon q k (counterSource_iff.mp h)

theorem outletSnapshot_eq (t : TankIx) (c : TankCfg) (s : State) :
    outletSnapshot t c s = s.setTank t { s.tank t with outSnapshot := snapshotOf s c.outletPoint } := rfl

theorem reworkAccepts_iff {d : ReworkDest} : reworkAccepts s d = true ↔ ∀ k, d = .chain k → Accepting s (.chain k) := by
  cases d with
  | chain k =>
    have h : reworkAccepts s (.chain k) = accepts s (.chain k) := rfl
    rw [h, accepts_iff]
    exact ⟨fun hk m hm => by cases hm; exact hk, fun hk => hk k rfl⟩
  | ret => simp [reworkAccepts]

theorem outletAvailable_iff :
    outletAvailable s c = true ↔
      (∀ q k, OnCounter s c.outletPoint q k → counterMapped s q = true) ∧
        (NoCounter s c.outletPoint → usable (s.point c.outletPoint) = true) := by
  unfold outletAvailable
  dsimp only
  rcases h : counterSource (s.point c.outletPoint) with _ | ⟨q, k⟩
  · have hno := counterSource_none.mp h
    exact ⟨fun hu => ⟨fun q k hq => absurd hq (hno q k), fun _ => hu⟩, fun hu => hu.2 hno⟩
  · have hon := counterSource_iff.mp h
    refine ⟨fun hm => ⟨fun r j hr => ?_, fun hno => absurd hon (hno q k)⟩, fun hm => hm.1 q k hon⟩
    have hsame := counterSource_iff.mpr hr
    rw [h] at hsame
    cases hsame
    exact hm

theorem reworkPaused_eq_false :
    reworkPaused s c = false ↔
      (∀ k, c.reworkDest = .chain k → Accepting s (.chain k)) ∧
        (∀ q k, OnCounter s c.outletPoint q k → counterMapped s q = true) ∧
          (NoCounter s c.outletPoint → usable (s.point c.outletPoint) = true) := by
  rw [reworkPaused, Bool.not_eq_false', Bool.and_eq_true, reworkAccepts_iff, outletAvailable_iff]

theorem eq_reworkPaused {paused : Bool}
    (h : paused = false ↔
      (∀ k, c.reworkDest = .chain k → Accepting s (.chain k)) ∧
        (∀ q k, OnCounter s c.outletPoint q k → counterMapped s q = true) ∧
          (NoCounter s c.outletPoint → usable (s.point c.outletPoint) = true)) : paused = reworkPaused s c := by
  rw [Bool.eq_iff_iff, ← not_iff_not, Bool.not_eq_true, Bool.not_eq_true, h, reworkPaused_eq_false]

/-- R162: the record of a tank that has entered rework. -/
def reworkedTank (s : State) (c : TankCfg) (b : Batch) (cause : ReworkCause) (x : Tank) : Tank :=
  { x with
    batch := some { b with cause := cause }, outSnapshot := snapshotOf s c.outletPoint, paused := reworkPaused s c,
    state := .rework }

theorem reworkState_eq (hc : (s.tank t).cfg = some c) (hb : (s.tank t).batch = some b) (cause : ReworkCause) :
    reworkState t cause s = tankRequest t (s.setTank t (reworkedTank s c b cause (s.tank t))) := by
  unfold reworkState
  rw [hc]
  simp only [updBatch, outletSnapshot_eq, tankGo, State.setTank_tank_self, State.setTank_setTank, hb, Option.map_some]
  rfl

theorem reworkState_tank (hc : (s.tank t).cfg = some c) (hb : (s.tank t).batch = some b) (cause : ReworkCause) :
    (reworkState t cause s).tank t = reworkedTank s c b cause (s.tank t) := by
  rw [reworkState_eq hc hb, tankRequest_tank, State.setTank_tank_self]

/-- R162: the two reports of an entry into rework. -/
theorem reworkReports_eq (hb : (s.tank t).batch = some b) (cause : ReworkCause) :
    reworkReports t cause s =
      { s with
        reports := (s.reports.raise (.alert .tankRework (.tank t) [reworkCauseCode cause, b.number] s.clock)).raise
          (.batch .rework b s.clock) } := by
  have hnum : batchNumber (s.tank t) = b.number := by simp [batchNumber, hb]
  have hbatch (q : ReportQueue) : ((s.setReports q).tank t).batch = some b := hb
  rw [reworkReports, hnum, raiseAlert_eq, raiseBatch, hbatch]
  rfl

theorem enterRework_eq (hc : (s.tank t).cfg = some c) (hb : (s.tank t).batch = some b) (cause : ReworkCause) :
    enterRework t cause s =
      let moved := tankRequest t (s.setTank t (reworkedTank s c b cause (s.tank t)))
      { moved with
        reports :=
          (moved.reports.raise (.alert .tankRework (.tank t) [reworkCauseCode cause, b.number] s.clock)).raise
            (.batch .rework { b with cause := cause } s.clock) } := by
  have hbatch : ((reworkState t cause s).tank t).batch = some { b with cause := cause } := by
    rw [reworkState_tank hc hb]
    rfl
  have hclock : (reworkState t cause s).clock = s.clock := by
    rw [reworkState_eq hc hb, tankRequest_clock]
    rfl
  rw [enterRework, reworkReports_eq hbatch, hclock, reworkState_eq hc hb]

/-! ### Outlet readings and the outflow -/

/-- R42, R44: a counter value stored and handed on. -/
theorem takeCounter_eq (p : PointIx) (n k : Nat) (s : State) :
    takeCounter p n k s =
      effluentReading p (counted n k (s.point p)).value
        (testSamples p (counted n k (s.point p)).value (s.setPoint p (counted n k (s.point p)))) := by
  simp only [takeCounter, handCounter_eq, State.setPoint_point_self]
  rfl

theorem outletReading_usable (h : NoCounter s c.outletPoint) (hu : usable (s.point c.outletPoint) = true) :
    outletReading t c s = (s, some (min (s.point c.outletPoint).value 16777215)) := by
  simp only [outletReading, counterSource_none.mpr h, hu, if_true, Config.max24]

theorem outletReading_unusable (h : NoCounter s c.outletPoint) (hu : usable (s.point c.outletPoint) = false) :
    outletReading t c s = (s, none) := by
  simp only [outletReading, counterSource_none.mpr h, hu, Bool.false_eq_true, if_false]

/-- R161: a tank whose counter outlet has given `n` pulses. -/
def outletCounted (s : State) (q : CounterIx) (k : Nat) (x : Tank) : Tank :=
  { x with
    outVolResidue := (pulsesSince s q x.outSnapshot * k + x.outVolResidue) % 100, outSnapshot := counterValue s q }

theorem outletReading_counter {q : CounterIx} {k : Nat} (h : OnCounter s c.outletPoint q k) (hq : counterMapped s q = true) :
    outletReading t c s =
      (takeCounter c.outletPoint (pulsesSince s q (s.tank t).outSnapshot) k (s.setTank t (outletCounted s q k (s.tank t))),
        some (min ((pulsesSince s q (s.tank t).outSnapshot * k + (s.tank t).outVolResidue) / 100) 16777215)) := by
  simp only [outletReading, counterSource_iff.mpr h, hq, if_true]
  rfl

theorem outletReading_unmapped {q : CounterIx} {k : Nat} (h : OnCounter s c.outletPoint q k) (hq : counterMapped s q = false) :
    outletReading t c s =
      (failPoint c.outletPoint .unmapped (s.setTank t { s.tank t with outSnapshot := 0 }), none) := by
  simp only [outletReading, counterSource_iff.mpr h, hq, Bool.false_eq_true, if_false]

theorem outflowSum_eq {x : Tank} (hb : x.batch = some b) (w : Nat) : outflowSum x w = b.conc * w + x.outMassResidue := by
  simp [outflowSum, testConc, hb]

theorem reworkOutflow_none {s' : State} (h : outletReading t c s = (s', none)) : reworkOutflow t c s = s' := by
  simp only [reworkOutflow, h]

theorem reworkOutflow_some {s' : State} {w : Nat} (h : outletReading t c s = (s', some w)) (hb : (s'.tank t).batch = some b) :
    reworkOutflow t c s =
      creditRework c.reworkDest ((b.conc * w + (s'.tank t).outMassResidue) / 1000) w
        (s'.setTank t { s'.tank t with outMassResidue := (b.conc * w + (s'.tank t).outMassResidue) % 1000 }) := by
  simp only [reworkOutflow, h, keepOutflowResidue, outflowSum_eq hb]

/-- R163: a counter outlet of a tank in rework leaves no more on the tank's record than its reading. -/
theorem outletCounter_tank {q : CounterIx} {k n : Nat} (hst : (s.tank t).state = .rework) (p : PointIx) :
    (takeCounter p n k (s.setTank t (outletCounted s q k (s.tank t)))).tank t = outletCounted s q k (s.tank t) := by
  have hself : (s.setTank t (outletCounted s q k (s.tank t))).tank t = outletCounted s q k (s.tank t) := State.setTank_tank_self ..
  have hstate : ((s.setTank t (outletCounted s q k (s.tank t))).tank t).state = .rework := by rw [hself]; exact hst
  rw [takeCounter_tank (by rw [hstate]; nofun) (by rw [hstate]; nofun), hself]

theorem endRework_eq (hb : (s.tank t).batch = some b) :
    endRework t s =
      tankRequest t
        { s.setTank t { s.tank t with batch := some { b with outcome := .reworked }, paused := false, state := .filling } with
          reports := s.reports.raise (.batch .reworked { b with outcome := .reworked } s.clock) } := by
  have hupd : updBatch t (fun b => { b with outcome := .reworked }) s =
      s.setTank t { s.tank t with batch := some { b with outcome := .reworked } } := by rw [updBatch, hb]; rfl
  have hraise : raiseBatch t .reworked (s.setTank t { s.tank t with batch := some { b with outcome := .reworked } }) =
      { s.setTank t { s.tank t with batch := some { b with outcome := .reworked } } with
        reports := s.reports.raise (.batch .reworked { b with outcome := .reworked } s.clock) } := by
    rw [raiseBatch, State.setTank_tank_self]
    rfl
  have hset (y z : Tank) (q : ReportQueue) :
      ({ s.setTank t y with reports := q } : State).setTank t z = { s.setTank t z with reports := q } := by
    simp [State.setTank]
  have hself (y : Tank) (q : ReportQueue) : ({ s.setTank t y with reports := q } : State).tank t = y := State.setTank_tank_self ..
  rw [endRework, hupd]
  dsimp only
  rw [hraise, hself, hset]
  simp only [tankGo]
  rw [hself, hset]

/-- Settles O51, by the outlet and by what rework leaves. -/
theorem reworkEntersMetersAndEnds : Obligations.ReworkEntersMetersAndEnds := by
  refine ⟨fun s t c b hc hb => ⟨fun hno hu => ?_, fun hno hu => reworkOutflow_none (outletReading_unusable hno hu),
    fun q k hon hq hst => ?_, fun q k hon hq => reworkOutflow_none (outletReading_unmapped hon hq), endRework_eq hb⟩,
    fun s t c b cause snapshot paused hc hb hon hno hpaused => ?_⟩
  · rw [reworkOutflow_some (outletReading_usable hno hu) hb]
    rfl
  · have htank := outletCounter_tank (q := q) (k := k) (n := pulsesSince s q (s.tank t).outSnapshot) hst c.outletPoint
    rw [reworkOutflow_some (outletReading_counter hon hq) (by rw [htank]; exact hb), htank, takeCounter_eq]
    rfl
  · obtain rfl := eq_snapshotOf hon hno
    obtain rfl := eq_reworkPaused hpaused
    exact enterRework_eq hc hb cause

/-! ### Tests -/

theorem countsComplete_usable (h : usable (s.point c.levelPoint) = true) : countsComplete t c s = testDecision t c s := if_pos h

theorem countsComplete_deferred (h : usable (s.point c.levelPoint) = false) :
    countsComplete t c s = s.setTank t { s.tank t with deferred := true } := if_neg (by simp [h])

section Samples

variable {y : Tank}

theorem afterSample_short (h : ¬ (y.silverSamples = c.samples ∧ y.phSamples = c.samples)) :
    afterSample t c (s.setTank t y) = s.setTank t y := by
  refine if_neg ?_
  simpa [State.setTank_tank_self] using h

theorem afterSample_complete (h : y.silverSamples = c.samples ∧ y.phSamples = c.samples) :
    afterSample t c (s.setTank t y) = countsComplete t c (s.setTank t y) := by
  refine if_pos ?_
  simpa [State.setTank_tank_self] using h

/-- R157, R158: what a counted reading leads to. -/
theorem afterSample_cases (t : TankIx) (c : TankCfg) (y : Tank) (s : State) :
    (¬ (y.silverSamples = c.samples ∧ y.phSamples = c.samples) → afterSample t c (s.setTank t y) = s.setTank t y) ∧
      (y.silverSamples = c.samples ∧ y.phSamples = c.samples → usable (s.point c.levelPoint) = true →
        afterSample t c (s.setTank t y) = testDecision t c (s.setTank t y)) ∧
      (y.silverSamples = c.samples ∧ y.phSamples = c.samples → usable (s.point c.levelPoint) = false →
        afterSample t c (s.setTank t y) = s.setTank t { y with deferred := true }) := by
  refine ⟨afterSample_short, fun h hu => ?_, fun h hu => ?_⟩
  · rw [afterSample_complete h, countsComplete_usable (s := s.setTank t y) hu]
  · rw [afterSample_complete h, countsComplete_deferred (s := s.setTank t y) hu, State.setTank_tank_self, State.setTank_setTank]

end Samples

section TestSample

variable {p : PointIx} {v : Nat}

theorem testSample_silver (hc : (s.tank t).cfg = some c) (hb : (s.tank t).batch = some b) (hst : (s.tank t).state = .testing)
    (hp : p = c.silverPoint) (hn : (s.tank t).silverSamples < c.samples) :
    testSample p v t s =
      afterSample t c (s.setTank t
        { s.tank t with
          silverSamples := (s.tank t).silverSamples + 1, batch := some { b with conc := max b.conc v } }) := by
  simp only [testSample, hc, hst, hp, if_true, hn, decide_true, Bool.and_self, silverSample, hb, Option.map_some]

theorem testSample_ph (hc : (s.tank t).cfg = some c) (hb : (s.tank t).batch = some b) (hst : (s.tank t).state = .testing)
    (hp : p = c.phPoint) (hne : p ≠ c.silverPoint) (hn : (s.tank t).phSamples < c.samples) :
    testSample p v t s =
      afterSample t c (s.setTank t
        { s.tank t with
          phSamples := (s.tank t).phSamples + 1
          batch := some { b with phMin := min b.phMin v, phMax := max b.phMax v } }) := by
  simp only [testSample, hc, hst, if_true, Ne.symm hne, hp.symm, hn, decide_true, decide_false, Bool.false_and, Bool.and_self,
    Bool.false_eq_true, if_false, phSample, hb, Option.map_some]

theorem testSample_ignored (hc : (s.tank t).cfg = some c)
    (h : (s.tank t).state ≠ .testing ∨
      ((p = c.silverPoint → c.samples ≤ (s.tank t).silverSamples) ∧ (p = c.phPoint → c.samples ≤ (s.tank t).phSamples))) :
    testSample p v t s = s := by
  unfold testSample
  rw [hc]
  dsimp only
  split
  · next hst =>
    obtain ⟨hsilver, hph⟩ := h.resolve_left (not_not_intro hst)
    rw [if_neg, if_neg]
    · rw [Bool.and_eq_true, decide_eq_true_eq, decide_eq_true_eq]
      exact fun ⟨hp, hn⟩ => absurd (hph hp.symm) (Nat.not_le_of_lt hn)
    · rw [Bool.and_eq_true, decide_eq_true_eq, decide_eq_true_eq]
      exact fun ⟨hp, hn⟩ => absurd (hsilver hp.symm) (Nat.not_le_of_lt hn)
  · rfl

end TestSample

/-! ### The decision -/

/-- R158: the state once the test is over and the batch is estimated. -/
def decidedState (t : TankIx) (d : Batch) (s : State) : State :=
  s.setTank t { s.tank t with test := none, deferred := false, batch := some d }

theorem beginDecision_eq (hb : (s.tank t).batch = some b) :
    beginDecision t c s = decidedState t (decidedBatch (s.point c.levelPoint).value c.capacity b) s := by
  simp only [beginDecision, updBatch, State.setTank_tank_self, State.setTank_setTank, State.setTank_point, hb, Option.map_some]
  rfl

theorem testDecision_eq (hb : (s.tank t).batch = some b) :
    testDecision t c s =
      let d := decidedBatch (s.point c.levelPoint).value c.capacity b
      match testVerdict s.disch.permit d with
      | .none => toQueued t (decidedState t d s)
      | cause => enterRework t cause (decidedState t d s) := by
  have hbatch (d : Batch) : ((decidedState t d s).tank t).batch = some d := by rw [decidedState, State.setTank_tank_self]
  unfold testDecision
  rw [beginDecision_eq hb]
  dsimp only
  rw [hbatch]
  rfl

theorem testVerdict_passes {p : PermitCfg} {d : Batch} (h : d.conc ≤ p.concCap ∧ p.phLow ≤ d.phMin ∧ d.phMax ≤ p.phHigh) :
    testVerdict (some p) d = .none := by
  obtain ⟨hconc, hlow, hhigh⟩ := h
  simp [testVerdict, Nat.not_lt.mpr hconc, Nat.not_lt.mpr hlow, Nat.not_lt.mpr hhigh]

theorem testVerdict_fails {p : PermitCfg} {d : Batch} (h : ¬ (d.conc ≤ p.concCap ∧ p.phLow ≤ d.phMin ∧ d.phMax ≤ p.phHigh)) :
    testVerdict (some p) d = .testFailed := by
  simp only [testVerdict, Bool.or_eq_true, decide_eq_true_eq]
  split
  · rfl
  · next hconc => exact if_pos (by omega)

/-- R160: a batch that passed. -/
theorem toQueued_eq (hb : (s.tank t).batch = some b) :
    toQueued t s =
      let queued := tankRequest t (s.setTank t { s.tank t with state := .queued })
      { queued with
        disch := { s.disch with queue := s.disch.queue ++ [t] }
        reports := queued.reports.raise (.batch .queued b s.clock) } := by
  unfold toQueued tankGo
  generalize hq : tankRequest t (s.setTank t { s.tank t with state := .queued }) = queued
  have hbatch (d : Discharge) : ((queued.setDisch d).tank t).batch = some b := by
    rw [State.setDisch_tank, ← hq, tankRequest_tank, State.setTank_tank_self]
    exact hb
  have hdisch : queued.disch = s.disch := by rw [← hq, tankRequest_disch, State.setTank_disch]
  dsimp only
  rw [raiseBatch, hbatch, hdisch]
  rfl

theorem exec_testTimerExpiry {ms : Nat} (hr : s.inReset = false) (hc : (s.tank t).cfg = some c) (hst : (s.tank t).state = .testing)
    (hms : (s.tank t).test = some ms) :
    exec (.testTimerExpiry t) s = .next (enterRework t .timeout (s.setTank t { s.tank t with test := none })) := by
  simp only [exec, execTestTimerExpiry]
  rw [live_of_not_inReset hr]
  simp [testExpired, hc, hst, hms]

/-- Settles O52, by the reading, the decision and the timer. -/
theorem testsDecideTheBatch : Obligations.TestsDecideTheBatch := by
  refine ⟨fun s p v => rfl, fun s t c b hc hb => ⟨fun p v hst hp hn => ?_, fun p v hst hp hne hn => ?_,
    fun p v h => testSample_ignored hc h, ⟨fun hnone => ?_, fun permit hp => ⟨fun hfail => ?_, fun hpass => ?_⟩⟩,
    fun ms hr hst hms => exec_testTimerExpiry hr hc hst hms⟩⟩
  · rw [testSample_silver hc hb hst hp hn]
    exact afterSample_cases ..
  · rw [testSample_ph hc hb hst hp hne hn]
    exact afterSample_cases ..
  · rw [testDecision_eq hb, hnone]
    rfl
  · rw [testDecision_eq hb, hp]
    dsimp only
    rw [testVerdict_fails hfail]
    rfl
  · rw [testDecision_eq hb, hp]
    dsimp only
    rw [testVerdict_passes hpass]
    exact toQueued_eq (State.setTank_tank_self .. ▸ rfl)

/-! ### The metering timer -/

theorem exec_tankMetering {ms : Nat} (hr : s.inReset = false) (hc : (s.tank t).cfg = some c)
    (hm : (s.tank t).metering = some ms) :
    exec (.tankMetering t) s = .next (meterTank t c (s.setTank t { s.tank t with metering := some 1000 })) := by
  simp only [exec, execTankMetering]
  rw [live_of_not_inReset hr]
  simp only [tankExpired, hc, hm, Option.isSome_some, if_true, Config.secondMs]

theorem meterTank_closes (hst : (s.tank t).state = .filling) (hu : usable (s.point c.levelPoint) = true)
    (hl : c.high ≤ (s.point c.levelPoint).value) : meterTank t c s = closeOfFill t c s := by
  simp [meterTank, hst, hu, hl]

theorem meterTank_decides (hst : (s.tank t).state = .testing) (hd : (s.tank t).deferred = true)
    (hu : usable (s.point c.levelPoint) = true) : meterTank t c s = testDecision t c s := by
  simp [meterTank, hst, hd, hu]

theorem meterTank_rework (hst : (s.tank t).state = .rework) : meterTank t c s = meterRework t c s := by
  simp only [meterTank, hst]

theorem meterTank_idle
    (hcloses : ¬ ((s.tank t).state = .filling ∧ usable (s.point c.levelPoint) = true ∧ c.high ≤ (s.point c.levelPoint).value))
    (hdecides : ¬ ((s.tank t).state = .testing ∧ (s.tank t).deferred = true ∧ usable (s.point c.levelPoint) = true))
    (hst : (s.tank t).state ≠ .rework) : meterTank t c s = s := by
  unfold meterTank
  split
  · next h => exact if_neg (by simpa [h] using hcloses)
  · next h => exact if_neg (by simpa [h] using hdecides)
  · next h => exact absurd h hst
  all_goals rfl

/-- R163, step 3: a pause flag that stands. -/
theorem reworkPause_same (h : reworkPaused s c = (s.tank t).paused) : reworkPause t c s = s := if_pos h

/-- R163, step 3: a pause flag that changes. -/
theorem reworkPause_changed {p : Bool} (hp : reworkPaused s c = p) (h : (s.tank t).paused = !p) (hst : (s.tank t).state = .rework) :
    reworkPause t c s =
      ownerRequest c.rework.act (if p then c.rework.closed else c.rework.opened) (s.setTank t { s.tank t with paused := p }) := by
  unfold reworkPause
  dsimp only
  rw [hp, h, if_neg (by simp)]
  simp only [State.setTank_tank_self, reworkOpen, hst, decide_true, Bool.true_and, valveValue]
  cases p <;> rfl

/-- R156: a tank goes to TESTING. -/
theorem toTesting_eq : toTesting t c s = tankRequest t (s.setTank t (testingTank c (s.tank t))) := by
  simp only [toTesting, tankGo, State.setTank_tank_self, State.setTank_setTank]
  rfl

theorem exec_dwellTimerExpiry {ms : Nat} (hr : s.inReset = false) (hc : (s.tank t).cfg = some c) (hst : (s.tank t).state = .mixing)
    (hms : (s.tank t).dwell = some ms) :
    exec (.dwellTimerExpiry t) s = .next (tankRequest t (s.setTank t (testingTank c (s.tank t)))) := by
  have hdue : ((s.tank t).state = .mixing && (s.tank t).dwell.isSome) = true := by simp [hst, hms]
  simp only [exec, execDwellTimerExpiry]
  rw [live_of_not_inReset hr, dwellExpired, hc]
  dsimp only
  rw [if_pos hdue, toTesting_eq]

/-- Settles O50, by the tank's state. -/
theorem tankMeteringFollowsTheState : Obligations.TankMeteringFollowsTheState := by
  intro s t c ms hr hc
  refine ⟨fun hm => ?_, exec_dwellTimerExpiry hr hc⟩
  rw [exec_tankMetering hr hc hm]
  have hself : (s.setTank t { s.tank t with metering := some 1000 }).tank t = { s.tank t with metering := some 1000 } :=
    State.setTank_tank_self ..
  refine ⟨fun hcloses hdecides hst => ?_, fun hcloses hdwell => ?_, fun hcloses hdwell => ?_, fun hdecides => ?_, fun hst => ?_⟩
  · rw [meterTank_idle] <;> rw [hself] <;> assumption
  · obtain ⟨hst, hu, hl⟩ := hcloses
    rw [meterTank_closes (s := s.setTank t { s.tank t with metering := some 1000 })
      (by rw [hself]; exact hst) hu hl, closeOfFill_mixing hdwell, hself, State.setTank_setTank]
  · obtain ⟨hst, hu, hl⟩ := hcloses
    rw [meterTank_closes (s := s.setTank t { s.tank t with metering := some 1000 })
      (by rw [hself]; exact hst) hu hl, closeOfFill_testing hdwell, hself, State.setTank_setTank]
  · obtain ⟨hst, hd, hu⟩ := hdecides
    rw [meterTank_decides (s := s.setTank t { s.tank t with metering := some 1000 })
      (by rw [hself]; exact hst) (by rw [hself]; exact hd) hu]
  · rw [meterTank_rework (s := s.setTank t { s.tank t with metering := some 1000 })
      (by rw [hself]; exact hst)]
    refine ⟨fun hlow => ?_, fun hlow hsame => ?_, fun hlow hp hpaused hout => ?_, fun hlow hp hpaused hout => ?_⟩
    · exact congrArg _ (if_pos (atLowLevel_iff.mpr hlow))
    · exact congrArg _ ((if_neg (atLowLevel_iff.not.mpr hlow)).trans (reworkPause_same hsame))
    · exact congrArg _ ((if_neg (atLowLevel_iff.not.mpr hlow)).trans (reworkPause_changed hp hpaused hout))
    · exact congrArg _ ((if_neg (atLowLevel_iff.not.mpr hlow)).trans (reworkPause_changed hp hpaused hout))

end Sys2Proof.Machine
end


section
/-! Consumed mass, stops of a release, effluent readings and the clock: O53, O56. -/

namespace Sys2Proof.Machine

variable {s : State} {p : PermitCfg}

/-! ### The budget -/

/-- R171: BUDGET_LOW is due for a permit. -/
def LowDue (p : PermitCfg) (d : Discharge) : Prop :=
  d.lowAlerted = false ∧ p.lowPermille ≠ 0 ∧ (p.cap - d.consumed) * 1000 < p.lowPermille * p.cap

/-- R171: BUDGET_EXHAUSTED is due for a permit. -/
def ExhaustedDue (p : PermitCfg) (d : Discharge) : Prop := d.exhaustedAlerted = false ∧ p.cap ≤ d.consumed

theorem remainingBudget_of_some (hp : s.disch.permit = some p) : remainingBudget s = p.cap - s.disch.consumed := by
  simp only [remainingBudget, hp]

theorem lowDue_iff (hp : s.disch.permit = some p) : lowDue s = true ↔ LowDue p s.disch := by
  simp [lowDue, LowDue, hp, remainingBudget_of_some hp, and_assoc]

theorem exhaustedDue_iff (hp : s.disch.permit = some p) : exhaustedDue s = true ↔ ExhaustedDue p s.disch := by
  simp [exhaustedDue, ExhaustedDue, hp]

/-- R171: BUDGET_LOW raised or not; `due` says which. -/
theorem alertLow_eq (hp : s.disch.permit = some p) {due : Bool} (hdue : due = true ↔ LowDue p s.disch) {q : ReportQueue}
    (hraised : LowDue p s.disch → q = s.reports.raise (.alert .budgetLow .permit [p.cap - s.disch.consumed, p.cap] s.clock))
    (hkept : ¬ LowDue p s.disch → q = s.reports) :
    alertLow s = { s with reports := q, disch := { s.disch with lowAlerted := s.disch.lowAlerted || due } } := by
  have hcap := capOf_of_some hp
  unfold alertLow
  by_cases h : LowDue p s.disch
  · rw [if_pos ((lowDue_iff hp).mpr h), hraised h, hdue.mpr h, Bool.or_true, remainingBudget_of_some hp, hcap]
    rfl
  · rw [if_neg ((lowDue_iff hp).not.mpr h), hkept h, Bool.eq_false_iff.mpr (hdue.not.mpr h), Bool.or_false]

/-- R171: BUDGET_EXHAUSTED raised or not; `due` says which. -/
theorem alertExhausted_eq (hp : s.disch.permit = some p) {due : Bool} (hdue : due = true ↔ ExhaustedDue p s.disch)
    {q : ReportQueue}
    (hraised : ExhaustedDue p s.disch → q = s.reports.raise (.alert .budgetExhausted .permit [s.disch.consumed, p.cap] s.clock))
    (hkept : ¬ ExhaustedDue p s.disch → q = s.reports) :
    alertExhausted s = { s with reports := q, disch := { s.disch with exhaustedAlerted := s.disch.exhaustedAlerted || due } } := by
  have hcap := capOf_of_some hp
  unfold alertExhausted
  by_cases h : ExhaustedDue p s.disch
  · rw [if_pos ((exhaustedDue_iff hp).mpr h), hraised h, hdue.mpr h, Bool.or_true, hcap]
    rfl
  · rw [if_neg ((exhaustedDue_iff hp).not.mpr h), hkept h, Bool.eq_false_iff.mpr (hdue.not.mpr h), Bool.or_false]

theorem budgetAlerts_of_none (hp : s.disch.permit = none) : budgetAlerts s = s := by
  have hlow : alertLow s = s := if_neg (by simp [lowDue, hp])
  rw [budgetAlerts, hlow]
  exact if_neg (by simp [exhaustedDue, hp])

theorem consume_zero (s : State) : consume 0 s = s := if_pos rfl

theorem consume_eq {m : Nat} (hm : m ≠ 0) :
    consume m s = budgetAlerts (s.setDisch { s.disch with consumed := min (s.disch.consumed + m) 281474976710655 }) := if_neg hm

theorem consume_of_none {m : Nat} (hm : m ≠ 0) (hp : s.disch.permit = none) :
    consume m s = { s with disch := { s.disch with consumed := min (s.disch.consumed + m) 281474976710655 } } :=
  (consume_eq hm).trans (budgetAlerts_of_none (s := s.setDisch _) hp)

/-! ### Effluent readings -/

section Effluent

variable {i : PointIx} {v : Nat}

theorem effluentReading_other (h : ∀ p, s.disch.permit = some p → p.silverPoint ≠ i ∧ p.phPoint ≠ i) :
    effluentReading i v s = s := by
  unfold effluentReading
  split
  · rfl
  · next p hp =>
    obtain ⟨hsilver, hph⟩ := h p hp
    rw [if_neg hsilver, if_neg hph]

theorem effluentReading_silver (hp : s.disch.permit = some p) (hsilver : p.silverPoint = i) (hph : p.phPoint ≠ i) :
    effluentReading i v s =
      if p.concCap < v then breakCaps i v 1 (s.setDisch { s.disch with peak := max s.disch.peak v })
      else s.setDisch { s.disch with peak := max s.disch.peak v } := by
  unfold effluentReading
  rw [hp]
  exact (if_neg hph).trans (if_pos hsilver)

theorem effluentReading_ph (hp : s.disch.permit = some p) (hsilver : p.silverPoint ≠ i) (hph : p.phPoint = i) :
    effluentReading i v s = effluentPh p i v s := by
  unfold effluentReading
  rw [hp]
  dsimp only
  rw [if_neg hsilver, if_pos hph]

end Effluent

/-- R179: the EFFLUENT stop sends the batch to rework. -/
theorem stopRelease_effluent {t : TankIx} {c : TankCfg} {b : Batch} (ht : releasingTank s = some t)
    (hc : (s.tank t).cfg = some c) (hb : (s.tank t).batch = some b) :
    stopRelease .effluent s =
      let moved := tankRequest t (s.setTank t (reworkedTank s c b .effluent (s.tank t)))
      { moved with
        reports :=
          ((moved.reports.raise
            (.alert .releaseStopped (.tank t) [6, b.number, b.estimate - b.released] s.clock)).raise
            (.alert .tankRework (.tank t) [5, b.number] s.clock)).raise
            (.batch .rework { b with cause := .effluent } s.clock) } := by
  have htank := reworkState_tank hc hb .effluent
  have hfigures : [stopCauseCode .effluent, batchNumber ((reworkState t .effluent s).tank t),
      remainingEstimate ((reworkState t .effluent s).tank t)] = [6, b.number, b.estimate - b.released] := by rw [htank]; rfl
  have hclock : (reworkState t .effluent s).clock = s.clock := by
    rw [reworkState_eq hc hb, tankRequest_clock]
    rfl
  have hbatch (q : ReportQueue) : (((reworkState t .effluent s).setReports q).tank t).batch = some { b with cause := .effluent } :=
    congrArg Tank.batch htank
  have hstop : stopRelease .effluent s = reworkReports t .effluent (raiseStopped t .effluent (reworkState t .effluent s)) := by
    simp only [stopRelease, ht]
  rw [hstop, raiseStopped, hfigures, raiseAlert_eq, reworkReports_eq (hbatch _), hclock, reworkState_eq hc hb]
  dsimp only [State.clock, State.setReports]
  rw [tankRequest_disch]
  rfl

/-- Settles O56, operation by operation. -/
theorem consumptionAndStops : Obligations.ConsumptionAndStops := by
  refine ⟨fun s m hm => hm ▸ consume_zero s, fun s m hm hp => consume_of_none hm hp, fun s m p hm hp => ?_,
    fun s cause h => stopRelease_of_none h cause, fun s cause code t hcode ht => ?_, fun s i v h => effluentReading_other h,
    fun s i v p hp => ⟨fun hsilver hph hv => ?_, fun hph hsilver hlow hhigh => ?_⟩, fun s i v limit p hp hbreak => ?_,
    fun s t c b snapshot paused ht hc hb hon hno hpaused => ?_⟩
  · intro total left low out q1 q2 h1 h1' h2 h2'
    have hlow := alertLow_eq (s := s.setDisch { s.disch with consumed := total }) (due := decide low) hp decide_eq_true_iff h1 h1'
    rw [consume_eq hm, budgetAlerts, hlow]
    exact alertExhausted_eq (due := decide out)
      (s := { s with
        reports := q1
        disch := { s.disch with consumed := total, lowAlerted := s.disch.lowAlerted || decide low } }) hp decide_eq_true_iff h2 h2'
  · have hne : cause ≠ .effluent := by rintro rfl; simp at hcode
    have hsame : stopCauseCode cause = code := by cases cause <;> simp at hcode <;> simp [stopCauseCode, hcode]
    rw [stopRelease_of_some ht hne, hsame]
  · rw [effluentReading_silver hp hsilver hph, if_neg (Nat.not_lt.mpr hv)]
    rfl
  · rw [effluentReading_ph hp hsilver hph, effluentPh, if_neg (Nat.not_lt.mpr hlow), if_neg (Nat.not_lt.mpr hhigh)]
  · rcases hbreak with ⟨hsilver, hph, hv, rfl⟩ | ⟨hph, hsilver, hv, rfl⟩ | ⟨hph, hsilver, hlow, hv, rfl⟩
    · rw [effluentReading_silver hp hsilver hph, if_pos hv, if_pos hsilver]
      rfl
    · rw [effluentReading_ph hp hsilver hph, effluentPh, if_pos hv, if_neg hsilver]
      rfl
    · rw [effluentReading_ph hp hsilver hph, effluentPh, if_neg (Nat.not_lt.mpr hlow), if_pos hv, if_neg hsilver]
      rfl
  · obtain rfl := eq_snapshotOf hon hno
    obtain rfl := eq_reworkPaused hpaused
    exact stopRelease_effluent ht hc hb

/-! ### The clock -/

theorem recomputeDay_setTimers (x : Timers) : recomputeDay (s.setTimers x) = (recomputeDay s).setTimers x := by
  have hday : (s.setTimers x).disch = s.disch := rfl
  unfold recomputeDay
  rw [hday]
  split
  · split <;> rfl
  · rfl

theorem countClock_setTimers (x : Timers) : countClock (s.setTimers x) = (countClock s).setTimers x := by
  unfold countClock
  have hdisch : (s.setTimers x).disch = s.disch := rfl
  rw [hdisch]
  split
  · rfl
  · exact recomputeDay_setTimers (s := s.setDisch _) x

theorem countClock_stopped (h : s.disch.clock = none) : countClock s = s := by rw [countClock, h]

theorem countClock_running {now : ClockTime} (h : s.disch.clock = some now) :
    countClock s = recomputeDay (s.setDisch { s.disch with clock := some (nextSecond now) }) := by rw [countClock, h]

theorem nextSecond_eq {day sec : Nat} (h : day ≤ 65535) :
    nextSecond { day := day, sec := sec } =
      if sec < 86399 then { day := day, sec := sec + 1 } else { day := if day < 65535 then day + 1 else 0, sec := 0 } := by
  have hmod : (day + 1) % 65536 = if day < 65535 then day + 1 else 0 := by split <;> omega
  unfold nextSecond
  rw [← hmod]

/-- R169: recomputing the day begins no other one unless both are known and differ. -/
theorem recomputeDay_kept
    (h : s.disch.permitDay = none ∨ dayOf s.disch.permit s.disch.clock = none ∨
      s.disch.permitDay = dayOf s.disch.permit s.disch.clock) :
    recomputeDay s = s.setDisch { s.disch with permitDay := dayOf s.disch.permit s.disch.clock } := by
  unfold recomputeDay
  split
  · next old new hold hnew =>
    rw [hold, hnew] at h
    obtain rfl : old = new := by simpa using h
    rw [if_pos rfl, hnew, ← hold]
    rfl
  · rfl

theorem permit_of_dayOf {permit : Option PermitCfg} {now : Option ClockTime} {day : Nat} (h : dayOf permit now = some day) :
    ∃ p, permit = some p := by
  cases permit with
  | none => simp [dayOf] at h
  | some p => exact ⟨p, rfl⟩

/-- Settles O53: the clock with its rollover, then the release metering and the evaluation. -/
theorem dischargeTimerTakesItsParts : Obligations.DischargeTimerTakesItsParts := by
  intro s hr counted hstopped hrunning hrange
  have hcounted : counted = countClock s := by
    cases hclock : s.disch.clock with
    | none => rw [hstopped hclock, countClock_stopped hclock]
    | some now =>
      obtain ⟨day, sec⟩ := now
      have hday := hrange day sec hclock
      obtain ⟨hkept, hrolled⟩ := hrunning day sec hclock _ rfl hday
      rw [← nextSecond_eq hday] at hkept hrolled
      rw [countClock_running hclock]
      by_cases hsame : s.disch.permitDay = none ∨ dayOf s.disch.permit (some (nextSecond { day := day, sec := sec })) = none ∨
          s.disch.permitDay = dayOf s.disch.permit (some (nextSecond { day := day, sec := sec }))
      · rw [recomputeDay_kept (s := s.setDisch { s.disch with clock := some (nextSecond { day := day, sec := sec }) }) hsame, hkept hsame]
        rfl
      · simp only [not_or] at hsame
        obtain ⟨hold, hnew, hne⟩ := hsame
        obtain ⟨old, hold⟩ := Option.ne_none_iff_exists'.mp hold
        obtain ⟨new, hnew⟩ := Option.ne_none_iff_exists'.mp hnew
        obtain ⟨p, hp⟩ := permit_of_dayOf hnew
        have hdiffer : old ≠ new := fun h => hne (by rw [hold, hnew, h])
        have hcap : capOf (s.setDisch { s.disch with clock := some (nextSecond { day := day, sec := sec }) }) = p.cap :=
          capOf_of_some hp
        rw [recomputeDay_rollover (s := s.setDisch { s.disch with clock := some (nextSecond { day := day, sec := sec }) })
          hold hnew hdiffer, hrolled p old new hp hold hnew hdiffer, rollover_eq, hcap]
        rfl
  simp only [exec, execDischargeTimerExpiry]
  rw [live_of_not_inReset hr, dischargeTick]
  simp only [countClock_setTimers, ← hcounted]
  rfl

end Sys2Proof.Machine
end


section
/-! The release evaluation and the metering of a release: O54, O55. -/

namespace Sys2Proof.Machine

variable {s : State} {t : TankIx} {c : TankCfg} {b : Batch}

/-! ### What requests leave of pins and actuators -/

section Requests

variable {a d : ActIx} {p l : PinIx} {v safe : Nat}

theorem ownerRequest_actuator_ne (h : d ≠ a) : (ownerRequest a v s).actuator d = s.actuator d := by
  obtain ⟨x, pins, reports, queue, heq⟩ := ownerRequest_touches s a v
  rw [heq]
  exact State.setActuator_actuator_ne s a d x h

theorem appliedTo_pin_fn : ((appliedTo s a p v).pin l).fn = (s.pin l).fn := by
  unfold appliedTo
  split
  · rw [State.setActuator_pin, State.setPin_pin]
    split
    · next h => rw [h]
    · rfl
  · rfl

theorem appliedTo_cfg : ((appliedTo s a p v).actuator a).cfg = (s.actuator a).cfg := by
  unfold appliedTo
  split
  · rw [State.setActuator_actuator_self]
    rfl
  · change ((s.setActuator a (withoutPin (s.actuator a) v)).actuator a).cfg = _
    rw [State.setActuator_actuator_self]
    rfl

theorem requestField_pins : (requestField a v s).pins = s.pins := by
  unfold requestField
  dsimp only
  split
  all_goals (repeat' split) <;> rfl

theorem requestField_cfg : ((requestField a v s).actuator a).cfg = (s.actuator a).cfg := by
  unfold requestField
  dsimp only
  split
  all_goals (repeat' split) <;> simp [enqueue, withdraw, dequeue, settleIdle]

/-- R77: how an owner request is carried out. -/
theorem ownerRequest_cases (a : ActIx) (v : Nat) (s : State) :
    ownerRequest a v s = s ∨ ownerRequest a v s = requestField a v s ∨ ∃ p, ownerRequest a v s = appliedTo s a p v := by
  by_cases hheld : s.port.safeHold = true
  · exact .inl (ownerRequest_of_safeHold hheld a v)
  rcases h : (s.actuator a).cfg with _ | ⟨⟨n, ch⟩ | p, safe⟩
  · exact .inl (ownerRequest_of_unloaded h)
  · exact .inr (.inl (ownerRequest_field (Bool.eq_false_iff.mpr hheld) h))
  · exact .inr (.inr ⟨_, ownerRequest_pin (Bool.eq_false_iff.mpr hheld) h⟩)

theorem ownerRequest_pin_fn : ((ownerRequest a v s).pin l).fn = (s.pin l).fn := by
  rcases ownerRequest_cases a v s with h | h | ⟨p, h⟩ <;> rw [h]
  · rw [State.pin, requestField_pins]
    rfl
  · exact appliedTo_pin_fn

theorem ownerRequest_cfg : ((ownerRequest a v s).actuator d).cfg = (s.actuator d).cfg := by
  by_cases hd : d = a
  · subst hd
    rcases ownerRequest_cases d v s with h | h | ⟨p, h⟩ <;> rw [h]
    · exact requestField_cfg
    · exact appliedTo_cfg
  · rw [ownerRequest_actuator_ne hd]

theorem tankRequest_pin_fn : ((tankRequest t s).pin l).fn = (s.pin l).fn := by
  unfold tankRequest
  split
  · rfl
  · simp only [ownerRequest_pin_fn]

theorem tankRequest_cfg : ((tankRequest t s).actuator d).cfg = (s.actuator d).cfg := by
  unfold tankRequest
  split
  · rfl
  · simp only [ownerRequest_cfg]

/-- R80: what a request makes of the state of a PIN-bound actuator. -/
def pinState (s : State) (p : PinIx) : ActState := if isOutput (s.pin p).fn then .idle else .failed

theorem ownerRequest_pinState (hheld : s.port.safeHold = false)
    (h : (s.actuator a).cfg = some { binding := .pin p, safe := safe }) :
    ((ownerRequest a v s).actuator a).state = pinState s p := by
  rw [ownerRequest_pin hheld h, pinState]
  split
  · next hp => exact appliedTo_state hp
  · next hp => exact appliedTo_state_failed (Bool.eq_false_iff.mpr hp)

theorem ownerRequest_keeps_pinState (hheld : s.port.safeHold = false)
    (h : (s.actuator d).cfg = some { binding := .pin p, safe := safe }) (hst : (s.actuator d).state = pinState s p) :
    ((ownerRequest a v s).actuator d).state = pinState s p := by
  by_cases hd : d = a
  · subst hd
    exact ownerRequest_pinState hheld h
  · rw [ownerRequest_actuator_ne hd, hst]

theorem pinState_congr {u : State} (h : (u.pin p).fn = (s.pin p).fn) : pinState u p = pinState s p := by rw [pinState, pinState, h]

/-- R150: a tank's requests settle its PIN-bound drain. -/
theorem tankRequest_drain (hc : (s.tank t).cfg = some c) (hheld : s.port.safeHold = false)
    (h : (s.actuator c.drain.act).cfg = some { binding := .pin p, safe := safe }) :
    ((tankRequest t s).actuator c.drain.act).state = pinState s p := by
  unfold tankRequest
  rw [hc]
  dsimp only
  generalize hu : ownerRequest c.inlet.act (valveValue c.inlet (inletOpen (s.tank t))) s = u
  have hfn : pinState u p = pinState s p := pinState_congr (by rw [← hu, ownerRequest_pin_fn])
  have hcfg : (u.actuator c.drain.act).cfg = some { binding := .pin p, safe := safe } := by rw [← hu, ownerRequest_cfg, h]
  have hport : u.port.safeHold = false := by rw [← hu, ownerRequest_port, hheld]
  generalize hw : ownerRequest c.drain.act (valveValue c.drain (drainOpen (s.tank t))) u = w
  have hfn' : pinState w p = pinState u p := pinState_congr (by rw [← hw, ownerRequest_pin_fn])
  rw [ownerRequest_keeps_pinState (p := p) (safe := safe), hfn', hfn]
  · rw [← hw, ownerRequest_port, hport]
  · rw [← hw, ownerRequest_cfg, hcfg]
  · rw [hfn', ← hw, ownerRequest_pinState hport hcfg]

end Requests

/-! ### Counters read after requests -/

theorem counterPin_congr {u : State} (h : ∀ l, (u.pin l).fn = (s.pin l).fn) (q : CounterIx) : counterPin u q = counterPin s q := by
  have hmap : mappingOf u q = mappingOf s q := funext fun l => by rw [mappingOf, mappingOf, h]
  rw [counterPin_eq, counterPin_eq, hmap]

theorem snapshotOf_congr {u : State} (hpins : ∀ l, (u.pin l).fn = (s.pin l).fn) (hcounters : u.counters = s.counters)
    {p : PointIx} (hpoint : u.point p = s.point p) : snapshotOf u p = snapshotOf s p := by
  have hcascaded (q : CounterIx) : cascaded u q = cascaded s q := by rw [cascaded, cascaded, counterPin_congr hpins]
  have hmapped (q : CounterIx) : counterMapped u q = counterMapped s q := by
    rw [counterMapped, counterMapped, counterPin_congr hpins, hcascaded]
  have hcount (q : CounterIx) : u.counter q = s.counter q := by rw [State.counter, hcounters]; rfl
  have hvalue (q : CounterIx) : counterValue u q = counterValue s q := by
    rw [counterValue, counterValue, hcascaded, hcount, hcount]
  simp only [snapshotOf, hpoint, hmapped, hvalue]

/-! ### The evaluation -/

@[simp] theorem reworkState_disch (cause : ReworkCause) : (reworkState t cause s).disch = s.disch := by
  unfold reworkState
  split
  · rfl
  · simp [tankGo, updBatch, outletSnapshot]

@[simp] theorem reworkReports_disch (cause : ReworkCause) : (reworkReports t cause s).disch = s.disch := by
  simp [reworkReports]

@[simp] theorem enterRework_disch (cause : ReworkCause) : (enterRework t cause s).disch = s.disch := by simp [enterRework]

theorem overCap_iff : overCap s t = true ↔ ∃ p, s.disch.permit = some p ∧ p.cap < remainingEstimate (s.tank t) := by
  simp [overCap, Option.any_eq_true]

theorem mayRelease_iff :
    mayRelease s t = true ↔
      releasingTank s = none ∧ DrainOpen s ∧
        ∃ p, s.disch.permit = some p ∧ remainingEstimate (s.tank t) ≤ p.cap - s.disch.consumed := by
  simp only [mayRelease, Bool.and_eq_true, Option.isNone_iff_eq_none, drainAccepts_iff, decide_eq_true_eq, and_assoc]
  refine and_congr_right fun _ => and_congr_right fun hopen => ?_
  obtain ⟨p, hp⟩ := Option.ne_none_iff_exists'.mp (hopen 1)
  rw [remainingBudget_of_some hp]
  refine ⟨fun h => ⟨p, hp, h⟩, fun ⟨q, hq, h⟩ => ?_⟩
  obtain rfl : p = q := by rw [hp] at hq; exact Option.some.inj hq
  exact h

section Evaluation

variable {rest : List TankIx}

theorem evaluateQueue_nil (h : s.disch.queue = []) : evaluateQueue s = s := by
  rw [evaluateQueue, h]
  rfl

theorem evaluateQueue_cons (h : s.disch.queue = t :: rest) :
    evaluateQueue s =
      let left := s.setDisch { s.disch with queue := rest }
      if overCap s t then evaluate rest.length (enterRework t .overCap left)
      else if mayRelease s t then startRelease t left
      else s := by
  rw [evaluateQueue, h, List.length_cons, evaluate, h]

/-- R177: the tank once it is RELEASING and its outlet snapshot is taken. -/
def releasingState (t : TankIx) (snapshot : Nat) (s : State) : State :=
  (tankRequest t (s.setTank t { s.tank t with state := .releasing })).setTank t
    { s.tank t with state := .releasing, outSnapshot := snapshot }

theorem startRelease_eq (hc : (s.tank t).cfg = some c) :
    startRelease t s = releaseDrainCheck t (releasingState t (snapshotOf s c.outletPoint) s) := by
  have htank : (tankGo t .releasing s).tank t = { s.tank t with state := .releasing } := by simp [tankGo]
  have hcfg : ((tankGo t .releasing s).tank t).cfg = some c := by rw [htank]; exact hc
  have hsnap : snapshotOf (tankGo t .releasing s) c.outletPoint = snapshotOf s c.outletPoint :=
    snapshotOf_congr (fun l => by rw [tankGo, tankRequest_pin_fn]; rfl) (by rw [tankGo, tankRequest_counters]; rfl)
      (by rw [tankGo, tankRequest_point]; rfl)
  unfold startRelease
  dsimp only
  rw [hcfg]
  dsimp only
  rw [outletSnapshot_eq, hsnap, htank]
  rfl

section Check

variable {snapshot : Nat}

theorem releasingState_tank : (releasingState t snapshot s).tank t = { s.tank t with state := .releasing, outSnapshot := snapshot } :=
  State.setTank_tank_self ..

theorem releasingState_cfg {a : ActIx} : ((releasingState t snapshot s).actuator a).cfg = (s.actuator a).cfg :=
  tankRequest_cfg (s := s.setTank t _)

theorem releasingState_releasing (hnone : releasingTank s = none) : releasingTank (releasingState t snapshot s) = some t := by
  refine find?_finRange_eq_some.mpr ⟨?_, fun j hj => ?_⟩
  · rw [releasingState_tank]
    rfl
  · have hne : j ≠ t := ne_of_lt hj
    rw [releasingState, setTank_tank_ne hne, tankRequest_tank, setTank_tank_ne hne]
    simpa using not_releasing_of_none hnone j

/-- R177: a release whose drain no pin carries goes on. -/
theorem releaseDrainCheck_kept (hc : (s.tank t).cfg = some c)
    (h : ∀ p safe, (s.actuator c.drain.act).cfg ≠ some { binding := .pin p, safe := safe }) : releaseDrainCheck t s = s := by
  unfold releaseDrainCheck
  rw [hc]
  dsimp only
  split
  · next hcfg => exact absurd hcfg (h _ _)
  · rfl
  · rfl

theorem releaseDrainCheck_pin (hc : (s.tank t).cfg = some c) {p : PinIx} {safe : Nat}
    (h : (s.actuator c.drain.act).cfg = some { binding := .pin p, safe := safe }) :
    releaseDrainCheck t s = drainFailed c.drain.act s := by
  simp only [releaseDrainCheck, hc, h]

theorem releasingState_loaded (hc : (s.tank t).cfg = some c) : ((releasingState t snapshot s).tank t).cfg = some c := by
  rw [releasingState_tank]
  exact hc

/-- R80, R177: what the request of the release has made of a PIN-bound drain. -/
theorem releasingState_drain (hc : (s.tank t).cfg = some c) (hheld : s.port.safeHold = false) {p : PinIx} {safe : Nat}
    (h : (s.actuator c.drain.act).cfg = some { binding := .pin p, safe := safe }) :
    ((releasingState t snapshot s).actuator c.drain.act).state = pinState s p :=
  tankRequest_drain (s := s.setTank t { s.tank t with state := .releasing }) ((congrArg Tank.cfg (State.setTank_tank_self ..)).trans hc)
    hheld h

end Check

/-- Settles O54, by the head of the queue. -/
theorem evaluationReleasesTheHead : Obligations.EvaluationReleasesTheHead := by
  intro s t rest
  refine ⟨evaluateQueue_nil, fun hq => ?_⟩
  rw [evaluateQueue_cons hq]
  intro estimate above allowed left
  have habove : overCap s t = true ↔ above := overCap_iff
  have hallowed : mayRelease s t = true ↔ allowed := mayRelease_iff
  refine ⟨fun h => ?_, fun hlow h => ?_, fun c snapshot hlow h hc hon hno => ?_⟩
  · have hqueue : (enterRework t .overCap left).disch.queue = rest := by rw [enterRework_disch]
    refine (if_pos (habove.mpr h)).trans ?_
    rw [evaluateQueue, hqueue]
    rfl
  · exact (if_neg (habove.not.mpr hlow)).trans (if_neg (hallowed.not.mpr h))
  · have hrelease := hallowed.mpr h
    obtain ⟨hnone, hopen, -⟩ := h
    obtain rfl := eq_snapshotOf hon hno
    have hrun : (if overCap s t then evaluate rest.length (enterRework t .overCap left)
        else if mayRelease s t then startRelease t left else s) =
          releaseDrainCheck t (releasingState t (snapshotOf s c.outletPoint) left) :=
      (if_neg (habove.not.mpr hlow)).trans ((if_pos hrelease).trans (startRelease_eq (s := left) hc))
    have hloaded := releasingState_loaded (s := left) (snapshot := snapshotOf s c.outletPoint) hc
    refine ⟨fun n ch safe hcfg => hrun.trans (releaseDrainCheck_kept hloaded fun p safe' hp => ?_), fun p safe hcfg => ?_,
      fun hcfg => hrun.trans (releaseDrainCheck_kept hloaded fun p safe' hp => ?_)⟩
    · rw [releasingState_cfg] at hp
      exact absurd (hcfg.symm.trans hp) (by simp)
    · have hdrain := releasingState_drain (s := left) (snapshot := snapshotOf s c.outletPoint) hc (hopen 4) hcfg
      have hcheck := hrun.trans (releaseDrainCheck_pin hloaded (releasingState_cfg.trans hcfg))
      refine ⟨fun hp => hcheck.trans ?_, fun hp => hcheck.trans ?_⟩
      · have hidle := hdrain.trans (if_pos hp)
        exact drainFailed_of_state (by rw [hidle]; nofun) (by rw [hidle]; nofun)
      · have hfailed := hdrain.trans (if_neg (Bool.eq_false_iff.mp hp))
        exact drainFailed_stops (.inr hfailed) (releasingState_releasing (s := left) hnone) hloaded rfl
    · rw [releasingState_cfg] at hp
      exact absurd (hcfg.symm.trans hp) (by simp)

end Evaluation

end Sys2Proof.Machine
end


section
/-! The metering of a release: O55. -/

namespace Sys2Proof.Machine

variable {s : State} {t : TankIx} {c : TankCfg} {b : Batch}

/-! ### What a reading handed on leaves of the permit and the clock -/

/-- The permit and the plant clock stand. -/
def KeepsPermit (s u : State) : Prop := u.disch.permit = s.disch.permit ∧ u.disch.clock = s.disch.clock

theorem KeepsPermit.of_disch {u : State} (h : u.disch = s.disch) : KeepsPermit s u := ⟨by rw [h], by rw [h]⟩

theorem KeepsPermit.trans {u w : State} (h : KeepsPermit s u) (h' : KeepsPermit u w) : KeepsPermit s w :=
  ⟨h'.1.trans h.1, h'.2.trans h.2⟩

theorem toQueued_keepsPermit (t : TankIx) (s : State) : KeepsPermit s (toQueued t s) := by
  constructor <;> simp [toQueued, tankGo]

theorem testDecision_keepsPermit (t : TankIx) (c : TankCfg) (s : State) : KeepsPermit s (testDecision t c s) := by
  have hbegin : KeepsPermit s (beginDecision t c s) := .of_disch (by simp [beginDecision, updBatch])
  unfold testDecision
  dsimp only
  split
  · exact hbegin
  · split
    · exact hbegin.trans (toQueued_keepsPermit ..)
    · exact hbegin.trans (.of_disch (enterRework_disch _))

theorem afterSample_keepsPermit (t : TankIx) (c : TankCfg) (s : State) : KeepsPermit s (afterSample t c s) := by
  unfold afterSample countsComplete
  split_ifs
  · exact testDecision_keepsPermit ..
  · exact .of_disch rfl
  · exact .of_disch rfl

theorem testSample_keepsPermit (p : PointIx) (v : Nat) (t : TankIx) (s : State) : KeepsPermit s (testSample p v t s) := by
  have hset (x : Tank) : KeepsPermit s (s.setTank t x) := .of_disch rfl
  unfold testSample
  split
  · exact .of_disch rfl
  · split_ifs
    · exact (hset _).trans (afterSample_keepsPermit ..)
    · exact (hset _).trans (afterSample_keepsPermit ..)
    · exact .of_disch rfl
    · exact .of_disch rfl

theorem testSamples_keepsPermit (p : PointIx) (v : Nat) (s : State) : KeepsPermit s (testSamples p v s) :=
  (((testSample_keepsPermit p v 0 s).trans (testSample_keepsPermit p v 1 _)).trans (testSample_keepsPermit p v 2 _)).trans
    (testSample_keepsPermit p v 3 _)

theorem stopRelease_effluent_disch : (stopRelease .effluent s).disch = s.disch := by
  unfold stopRelease
  split
  · rfl
  · simp [raiseStopped]

/-! ### What an effluent reading leaves of a tank -/

/-- A tank's record after an effluent reading: as it was, or in rework with its test concentration and its residue. -/
def KeptOrReworked (x y : Tank) : Prop :=
  y = x ∨ (y.state = .rework ∧ testConc y = testConc x ∧ y.outMassResidue = x.outMassResidue)

theorem KeptOrReworked.testConc {x y : Tank} (h : KeptOrReworked x y) : testConc y = testConc x := by
  rcases h with rfl | ⟨-, h, -⟩
  · rfl
  · exact h

theorem KeptOrReworked.outMassResidue {x y : Tank} (h : KeptOrReworked x y) : y.outMassResidue = x.outMassResidue := by
  rcases h with rfl | ⟨-, -, h⟩
  · rfl
  · exact h

theorem KeptOrReworked.eq_of_releasing {x y : Tank} (h : KeptOrReworked x y) (hst : y.state = .releasing) : y = x := by
  rcases h with h | ⟨hrework, -⟩
  · exact h
  · rw [hst] at hrework
    cases hrework

theorem stopRelease_effluent_tank (hc : (s.tank t).cfg = some c) (hb : (s.tank t).batch = some b) :
    KeptOrReworked (s.tank t) ((stopRelease .effluent s).tank t) := by
  unfold stopRelease
  split
  · exact .inl rfl
  · next k _ =>
    by_cases hk : t = k
    · subst hk
      have htank : (reworkReports t .effluent (raiseStopped t .effluent (reworkState t .effluent s))).tank t =
          reworkedTank s c b .effluent (s.tank t) := by simp [raiseStopped, reworkState_tank hc hb]
      refine .inr ?_
      dsimp only
      rw [htank]
      exact ⟨rfl, by simp [testConc, reworkedTank, hb], rfl⟩
    · refine .inl ?_
      simp [raiseStopped, reworkState_tank_ne hk]

theorem effluentSilver_tank (hc : (s.tank t).cfg = some c) (hb : (s.tank t).batch = some b) (permit : PermitCfg) (p : PointIx)
    (v : Nat) : KeptOrReworked (s.tank t) ((effluentSilver permit p v s).tank t) := by
  unfold effluentSilver
  dsimp only
  split
  · exact stopRelease_effluent_tank (s := raiseAlert .effluentHigh (.point p) [v, 1] (s.setDisch _)) hc hb
  · exact .inl rfl

theorem effluentPh_tank (hc : (s.tank t).cfg = some c) (hb : (s.tank t).batch = some b) (permit : PermitCfg) (p : PointIx)
    (v : Nat) : KeptOrReworked (s.tank t) ((effluentPh permit p v s).tank t) := by
  unfold effluentPh
  split_ifs
  · exact stopRelease_effluent_tank (s := raiseAlert .effluentHigh (.point p) [v, 2] s) hc hb
  · exact stopRelease_effluent_tank (s := raiseAlert .effluentHigh (.point p) [v, 3] s) hc hb
  · exact .inl rfl

/-- R179: a tank that is not RELEASING is left alone by the pH reading. -/
theorem effluentPh_tank_kept (h : (s.tank t).state ≠ .releasing) (permit : PermitCfg) (p : PointIx) (v : Nat) :
    (effluentPh permit p v s).tank t = s.tank t := by
  unfold effluentPh
  split_ifs
  · exact stopRelease_tank (s := raiseAlert .effluentHigh (.point p) [v, 2] s) h .effluent
  · exact stopRelease_tank (s := raiseAlert .effluentHigh (.point p) [v, 3] s) h .effluent
  · rfl

theorem effluentReading_keptOrReworked (hc : (s.tank t).cfg = some c) (hb : (s.tank t).batch = some b) (p : PointIx) (v : Nat) :
    KeptOrReworked (s.tank t) ((effluentReading p v s).tank t) := by
  unfold effluentReading
  split
  · exact .inl rfl
  · next permit _ =>
    have hsilver : KeptOrReworked (s.tank t) ((if permit.silverPoint = p then effluentSilver permit p v s else s).tank t) := by
      split
      · exact effluentSilver_tank hc hb ..
      · exact .inl rfl
    dsimp only
    generalize (if permit.silverPoint = p then effluentSilver permit p v s else s) = u at hsilver
    split
    · obtain hsame | hrework := hsilver
      · rw [← hsame] at hc hb ⊢
        exact effluentPh_tank hc hb ..
      · have hstate : (u.tank t).state ≠ .releasing := by rw [hrework.1]; nofun
        rw [effluentPh_tank_kept hstate]
        exact .inr hrework
    · exact hsilver

theorem effluentReading_keepsPermit (p : PointIx) (v : Nat) (s : State) : KeepsPermit s (effluentReading p v s) := by
  have hbreak (limit : Nat) (u : State) : KeepsPermit u (breakCaps p v limit u) := .of_disch stopRelease_effluent_disch
  unfold effluentReading
  split
  · exact .of_disch rfl
  · next permit _ =>
    have hsilver : KeepsPermit s (if permit.silverPoint = p then effluentSilver permit p v s else s) := by
      unfold effluentSilver
      dsimp only
      split_ifs
      · exact KeepsPermit.trans (u := s.setDisch _) ⟨rfl, rfl⟩ (hbreak ..)
      · exact ⟨rfl, rfl⟩
      · exact .of_disch rfl
    dsimp only
    generalize (if permit.silverPoint = p then effluentSilver permit p v s else s) = u at hsilver
    unfold effluentPh
    split_ifs
    · exact hsilver.trans (hbreak ..)
    · exact hsilver.trans (hbreak ..)
    · exact hsilver
    · exact hsilver

/-! ### The outlet of a release -/

theorem takeCounter_keepsPermit (p : PointIx) (n k : Nat) (s : State) : KeepsPermit s (takeCounter p n k s) := by
  rw [takeCounter_eq]
  exact (KeepsPermit.of_disch (u := s.setPoint p _) rfl).trans ((testSamples_keepsPermit ..).trans (effluentReading_keepsPermit ..))

theorem takeCounter_keptOrReworked (hst : (s.tank t).state = .releasing) (hc : (s.tank t).cfg = some c)
    (hb : (s.tank t).batch = some b) (p : PointIx) (n k : Nat) : KeptOrReworked (s.tank t) ((takeCounter p n k s).tank t) := by
  rw [takeCounter_eq]
  have hsamples (x : Point) (v : Nat) : (testSamples p v (s.setPoint p x)).tank t = s.tank t :=
    testSamples_tank (s := s.setPoint p x) (by rw [State.setPoint_tank, hst]; nofun) p v
  rw [← hsamples (counted n k (s.point p)) (counted n k (s.point p)).value] at hc hb ⊢
  exact effluentReading_keptOrReworked hc hb ..

/-- R170, R171: a delivery touches the reports and the day's counters. -/
theorem consume_touches (m : Nat) (s : State) :
    ∃ q d, consume m s = { s with reports := q, disch := d } ∧ d.permit = s.disch.permit ∧ d.clock = s.disch.clock := by
  have hlow (u : State) : ∃ q d, alertLow u = { u with reports := q, disch := d } ∧ d.permit = u.disch.permit ∧ d.clock = u.disch.clock := by
    unfold alertLow
    split
    · exact ⟨_, _, rfl, rfl, rfl⟩
    · exact ⟨u.reports, u.disch, rfl, rfl, rfl⟩
  have hout (u : State) :
      ∃ q d, alertExhausted u = { u with reports := q, disch := d } ∧ d.permit = u.disch.permit ∧ d.clock = u.disch.clock := by
    unfold alertExhausted
    split
    · exact ⟨_, _, rfl, rfl, rfl⟩
    · exact ⟨u.reports, u.disch, rfl, rfl, rfl⟩
  unfold consume
  split
  · exact ⟨s.reports, s.disch, rfl, rfl, rfl⟩
  · obtain ⟨q, d, hd, hp, hk⟩ := hlow (s.setDisch { s.disch with consumed := add48 s.disch.consumed m })
    obtain ⟨q', d', hd', hp', hk'⟩ := hout (alertLow (s.setDisch { s.disch with consumed := add48 s.disch.consumed m }))
    rw [budgetAlerts, hd']
    rw [hd] at hp' hk' ⊢
    exact ⟨q', d', rfl, hp'.trans hp, hk'.trans hk⟩

/-! ### The three ends of a metering -/

/-- R178: a batch with its outflow mass delivered. -/
def deliveredBatch (m : Nat) (b : Batch) : Batch := { b with released := min (b.released + m) 281474976710655 }

/-- R178, steps 1 and 2: the outflow of `sum` thousandths delivered to the batch and to consumed today. -/
def outflowDelivered (t : TankIx) (sum : Nat) (s : State) : State :=
  consume (sum / 1000)
    (s.setTank t { s.tank t with outMassResidue := sum % 1000, batch := (s.tank t).batch.map (deliveredBatch (sum / 1000)) })

theorem outflowDelivered_tank (sum : Nat) :
    (outflowDelivered t sum s).tank t =
      { s.tank t with outMassResidue := sum % 1000, batch := (s.tank t).batch.map (deliveredBatch (sum / 1000)) } := by
  obtain ⟨q, d, h, -⟩ := consume_touches (sum / 1000)
    (s.setTank t { s.tank t with outMassResidue := sum % 1000, batch := (s.tank t).batch.map (deliveredBatch (sum / 1000)) })
  rw [outflowDelivered, h]
  exact State.setTank_tank_self ..

theorem outflowDelivered_point (sum : Nat) (p : PointIx) : (outflowDelivered t sum s).point p = s.point p := by
  obtain ⟨q, d, h, -⟩ := consume_touches (sum / 1000)
    (s.setTank t { s.tank t with outMassResidue := sum % 1000, batch := (s.tank t).batch.map (deliveredBatch (sum / 1000)) })
  rw [outflowDelivered, h]
  rfl

theorem outflowDelivered_keepsPermit (t : TankIx) (sum : Nat) (s : State) : KeepsPermit s (outflowDelivered t sum s) := by
  obtain ⟨q, d, h, hp, hk⟩ := consume_touches (sum / 1000)
    (s.setTank t { s.tank t with outMassResidue := sum % 1000, batch := (s.tank t).batch.map (deliveredBatch (sum / 1000)) })
  rw [outflowDelivered, h]
  exact ⟨hp, hk⟩

theorem meterRelease_none {u : State} (h : outletReading t c s = (u, none)) : meterRelease t c s = stopRelease .meterLost u := by
  simp only [meterRelease, h]

theorem meterRelease_some {u : State} {w sum : Nat} (h : outletReading t c s = (u, some w)) (hsum : outflowSum (u.tank t) w = sum) :
    meterRelease t c s =
      if ((outflowDelivered t sum u).tank t).state ≠ .releasing then outflowDelivered t sum u
      else if atLowLevel (outflowDelivered t sum u) c then completeRelease t (outflowDelivered t sum u)
      else if capReached (outflowDelivered t sum u) then stopRelease .budget (outflowDelivered t sum u)
      else outflowDelivered t sum u := by
  have hdeliver : deliverRelease t (outflowSum (u.tank t) w / 1000) (keepOutflowResidue t w u) = outflowDelivered t sum u := by
    rw [deliverRelease, keepOutflowResidue, updBatch, hsum, State.setTank_tank_self, State.setTank_setTank]
    rfl
  simp only [meterRelease, h, hdeliver]

theorem capReached_iff : capReached s = true ↔ ∃ p, s.disch.permit = some p ∧ p.cap ≤ s.disch.consumed := by
  simp [capReached, Option.any_eq_true]

/-- R178, step 3: a release that completes. -/
theorem completeRelease_eq (hb : (s.tank t).batch = some b) :
    completeRelease t s =
      let done := { b with outcome := .released }
      let filled := tankRequest t
        { s.setTank t { s.tank t with batch := some done, state := .filling } with
          disch := { s.disch with released := min (s.disch.released + 1) 65535 } }
      { filled with reports := filled.reports.raise (.batch .released done s.clock) } := by
  have hupd : updBatch t (fun b => { b with outcome := .released }) s =
      s.setTank t { s.tank t with batch := some { b with outcome := .released } } := by rw [updBatch, hb]; rfl
  have hset (y z : Tank) (d : Discharge) : ((s.setTank t y).setDisch d).setTank t z = (s.setTank t z).setDisch d := by
    simp [State.setTank, State.setDisch]
  have hself (y : Tank) (d : Discharge) : ((s.setTank t y).setDisch d).tank t = y := State.setTank_tank_self ..
  have hbatch (y : Tank) (d : Discharge) : (tankRequest t ((s.setTank t y).setDisch d)).tank t = y := by rw [tankRequest_tank, hself]
  have hclock (y : Tank) (d : Discharge) : (tankRequest t ((s.setTank t y).setDisch d)).clock = d.clock := tankRequest_clock ..
  rw [completeRelease, hupd]
  dsimp only
  rw [tankGo, hself, hset, raiseBatch, hbatch]
  dsimp only
  rw [raise_eq, hclock]
  rfl

theorem meterReleasing_of_some (ht : releasingTank s = some t) (hc : (s.tank t).cfg = some c) :
    meterReleasing s = meterRelease t c s := by
  simp only [meterReleasing, ht, hc]

/-- R178: the metering once the outlet has been read; `u` is the state that the reading leaves, `x` the tank before it is handed on. -/
theorem meterRelease_cases {u : State} {w sum : Nat} {x : Tank} (hread : outletReading t c s = (u, some w))
    (hx : x.batch = some b) (hsum : b.conc * w + x.outMassResidue = sum) (htank : KeptOrReworked x (u.tank t))
    (hkeeps : KeepsPermit s u) :
    let metered := outflowDelivered t sum u
    let low := usable (u.point c.levelPoint) = true ∧ (u.point c.levelPoint).value ≤ c.low
    let capped := ∃ p, s.disch.permit = some p ∧ p.cap ≤ metered.disch.consumed
    ((u.tank t).state ≠ .releasing → meterRelease t c s = metered) ∧
      ((u.tank t).state = .releasing →
        (¬ low → ¬ capped → meterRelease t c s = metered) ∧
        (¬ low → capped → meterRelease t c s = stopRelease .budget metered) ∧
        (low →
          let done := { deliveredBatch (sum / 1000) b with outcome := .released }
          let filled := tankRequest t
            { metered.setTank t { metered.tank t with batch := some done, state := .filling } with
              disch := { metered.disch with released := min (metered.disch.released + 1) 65535 } }
          meterRelease t c s = { filled with reports := filled.reports.raise (.batch .released done s.clock) })) := by
  intro metered low capped
  have hflow : outflowSum (u.tank t) w = sum := by
    have hconc : testConc x = b.conc := by rw [testConc, hx]
    rw [outflowSum, htank.testConc, htank.outMassResidue, hconc, hsum]
  have hstate : (metered.tank t).state = (u.tank t).state := by rw [outflowDelivered_tank]
  have hlow : atLowLevel metered c = true ↔ low := by rw [atLowLevel_iff, outflowDelivered_point]
  have hday := hkeeps.trans (outflowDelivered_keepsPermit t sum u)
  have hcapped : capReached metered = true ↔ capped := by
    rw [capReached_iff, hday.1]
  have hclock : metered.clock = s.clock := hday.2
  rw [meterRelease_some hread hflow]
  refine ⟨fun hst => if_pos (by rw [hstate]; exact hst), fun hst => ?_⟩
  have hbatch : (metered.tank t).batch = some (deliveredBatch (sum / 1000) b) := by
    rw [outflowDelivered_tank]
    dsimp only
    rw [htank.eq_of_releasing hst, hx]
    rfl
  rw [if_neg (not_not_intro (hstate.trans hst))]
  refine ⟨fun hl hcap => ?_, fun hl hcap => ?_, fun hl => ?_⟩
  · exact (if_neg (hlow.not.mpr hl)).trans (if_neg (hcapped.not.mpr hcap))
  · exact (if_neg (hlow.not.mpr hl)).trans (if_pos (hcapped.mpr hcap))
  · rw [← hclock]
    exact (if_pos (hlow.mpr hl)).trans (completeRelease_eq hbatch)

/-- Settles O55, by the outlet and by what the metering finds. -/
theorem releaseMeteringCompletesOrStops : Obligations.ReleaseMeteringCompletesOrStops := by
  refine fun s => ⟨fun hnone => by simp only [meterReleasing, hnone], fun t c b ht hc hb => ?_⟩
  have hst := releasing_of_releasingTank ht
  rw [meterReleasing_of_some ht hc]
  refine ⟨fun hno hu => meterRelease_none (outletReading_unusable hno hu),
    fun q k hon hq => meterRelease_none (outletReading_unmapped hon hq), fun w read hread => ?_⟩
  rcases hread with ⟨hno, hu, rfl, rfl⟩ | ⟨q, k, hon, hq, hread⟩
  · exact meterRelease_cases (outletReading_usable hno hu) hb rfl (.inl rfl) (.of_disch rfl)
  · obtain ⟨rfl, hread⟩ := hread
    have htaken : takeCounter c.outletPoint (pulsesSince s q (s.tank t).outSnapshot) k
        (s.setTank t (outletCounted s q k (s.tank t))) = read := by
      rw [takeCounter_eq, State.setTank_point]
      exact hread.symm
    have hself : (s.setTank t (outletCounted s q k (s.tank t))).tank t = outletCounted s q k (s.tank t) := State.setTank_tank_self ..
    have hkept := takeCounter_keptOrReworked (s := s.setTank t (outletCounted s q k (s.tank t))) (t := t) (c := c) (b := b)
      (by rw [hself]; exact hst) (by rw [hself]; exact hc) (by rw [hself]; exact hb) c.outletPoint
      (pulsesSince s q (s.tank t).outSnapshot) k
    have hkeeps : KeepsPermit s (takeCounter c.outletPoint (pulsesSince s q (s.tank t).outSnapshot) k
        (s.setTank t (outletCounted s q k (s.tank t)))) :=
      KeepsPermit.trans (u := s.setTank t (outletCounted s q k (s.tank t))) (.of_disch rfl) (takeCounter_keepsPermit ..)
    have houtlet := outletReading_counter (t := t) hon hq
    rw [hself, htaken] at hkept
    rw [htaken] at hkeeps houtlet
    exact meterRelease_cases houtlet (x := outletCounted s q k (s.tank t)) hb rfl hkept hkeeps

end Sys2Proof.Machine
end


section
/-! The accounting step: the stream's own account, the credit and the routing: O38, O40, O41. -/

namespace Sys2Proof.Machine

variable {s : State} {i : StreamIx} {c : StreamCfg}

/-! ### The credit -/

theorem creditedBy_primary : creditedBy c (some c.primaryPos) = .primary := if_pos rfl

theorem creditedBy_divert {confirmed : Option Nat} {d : Dest} (hp : confirmed ≠ some c.primaryPos)
    (hd : confirmed = some c.divertPos) (hdest : c.divert = some d) : creditedBy c confirmed = .divert := by
  subst hd
  exact (if_neg fun h => hp (congrArg some h)).trans (if_pos ⟨rfl, by rw [hdest]; rfl⟩)

theorem creditedBy_unrouted {confirmed : Option Nat} (hp : confirmed ≠ some c.primaryPos)
    (hd : confirmed ≠ some c.divertPos ∨ c.divert = none) : creditedBy c confirmed = .unrouted := by
  cases confirmed with
  | none => rfl
  | some v =>
    refine (if_neg fun h => hp (congrArg some h)).trans (if_neg ?_)
    rintro ⟨hv, hsome⟩
    rcases hd with hd | hd
    · exact hd (congrArg some hv)
    · rw [hd] at hsome
      cases hsome

theorem creditedBy_eq (confirmed : Option Nat) :
    creditedBy c confirmed =
      if confirmed = some c.primaryPos then .primary
      else if confirmed = some c.divertPos ∧ c.divert ≠ none then .divert
      else .unrouted := by
  by_cases hp : confirmed = some c.primaryPos
  · rw [if_pos hp, hp, creditedBy_primary]
  · rw [if_neg hp]
    by_cases hd : confirmed = some c.divertPos ∧ c.divert ≠ none
    · obtain ⟨d, hdest⟩ := Option.ne_none_iff_exists'.mp hd.2
      rw [if_pos hd, creditedBy_divert hp hd.1 hdest]
    · rw [if_neg hd, creditedBy_unrouted hp]
      exact (not_and_or.mp hd).imp_right not_not.mp

/-- R18: the stream marked with its credited destination. -/
def markedState (i : StreamIx) (cr : Credited) (s : State) : State := s.setStream i { s.stream i with credited := cr }

theorem creditStep_primary (h : creditedBy c (s.actuator c.route).confirmed = .primary) :
    creditStep i c s = creditDest c.primary (s.stream i).lastMass (s.stream i).lastVol (markedState i .primary s) := by
  simp only [creditStep, h, State.setStream_stream_self]
  rfl

theorem creditStep_divert {d : Dest} (h : creditedBy c (s.actuator c.route).confirmed = .divert) (hd : c.divert = some d) :
    creditStep i c s = creditDest d (s.stream i).lastMass (s.stream i).lastVol (markedState i .divert s) := by
  simp only [creditStep, h, hd, State.setStream_stream_self]
  rfl

theorem creditStep_unrouted (h : creditedBy c (s.actuator c.route).confirmed = .unrouted) :
    creditStep i c s = creditUnrouted (s.stream i).lastMass (s.stream i).lastVol (markedState i .unrouted s) := by
  simp only [creditStep, h, State.setStream_stream_self]
  rfl

section Chain

variable {k : ChainIx} {m v : Nat}

/-- R138: the chain's volume since metering with a credit. -/
def volumeCredited (v : Nat) (x : Chain) : Chain := { x with volume := min (x.volume + v) 4294967295 }

theorem creditChain_posA (h : (s.chain k).posA.state = .lead) :
    creditChain k m v s =
      s.setChain k
        { volumeCredited v (s.chain k) with
          posA := { (s.chain k).posA with loading := min ((s.chain k).posA.loading + m) 281474976710655 } } :=
  congrArg (s.setChain k) (if_pos h)

theorem creditChain_posB (ha : (s.chain k).posA.state ≠ .lead) (hb : (s.chain k).posB.state = .lead) :
    creditChain k m v s =
      s.setChain k
        { volumeCredited v (s.chain k) with
          posB := { (s.chain k).posB with loading := min ((s.chain k).posB.loading + m) 281474976710655 } } :=
  congrArg (s.setChain k) ((if_neg ha).trans (if_pos hb))

theorem creditChain_unplaced (ha : (s.chain k).posA.state ≠ .lead) (hb : (s.chain k).posB.state ≠ .lead) :
    creditChain k m v s =
      s.setChain k
        { volumeCredited v (s.chain k) with unplaced := min ((s.chain k).unplaced + m) 281474976710655 } :=
  congrArg (s.setChain k) ((if_neg ha).trans (if_neg hb))

end Chain

/-! ### Deliveries to the drain -/

theorem budgetAlerts_consumed : (budgetAlerts s).disch.consumed = s.disch.consumed := by
  have hlow (u : State) : (alertLow u).disch.consumed = u.disch.consumed := by
    unfold alertLow
    split <;> rfl
  have hout (u : State) : (alertExhausted u).disch.consumed = u.disch.consumed := by
    unfold alertExhausted
    split <;> rfl
  rw [budgetAlerts, hout, hlow]

theorem consume_consumed {m : Nat} (hm : m ≠ 0) :
    (consume m s).disch.consumed = min (s.disch.consumed + m) 281474976710655 := by
  rw [consume_eq hm, budgetAlerts_consumed]
  rfl

theorem consume_keepsPermit (m : Nat) (s : State) : KeepsPermit s (consume m s) := by
  obtain ⟨q, d, h, hp, hk⟩ := consume_touches m s
  rw [h]
  exact ⟨hp, hk⟩

theorem deliverDrain_zero : deliverDrain 0 s = s := by
  rw [deliverDrain, consume_zero]
  rfl

theorem deliverDrain_eq {m : Nat} (hm : m ≠ 0) :
    deliverDrain m s = if capReached (consume m s) then stopRelease .budget (consume m s) else consume m s := by
  simp [deliverDrain, hm]

theorem capReached_consume {m : Nat} (hm : m ≠ 0) :
    capReached (consume m s) = true ↔
      ∃ p, s.disch.permit = some p ∧ p.cap ≤ min (s.disch.consumed + m) 281474976710655 := by
  rw [capReached_iff, consume_consumed hm, (consume_keepsPermit m s).1]

/-- Settles O40, by the confirmed position and by the destination. -/
theorem eachStepCreditsOneAccount : Obligations.EachStepCreditsOneAccount := by
  intro s i c
  refine ⟨fun h => creditStep_primary (h ▸ creditedBy_primary), fun d hp hd hdest => creditStep_divert (creditedBy_divert hp hd hdest) hdest,
    fun hp hd => creditStep_unrouted (creditedBy_unrouted hp hd), fun e => rfl, fun t => rfl, rfl,
    fun k => ⟨creditChain_posA, creditChain_posB, creditChain_unplaced⟩, fun hm => ?_, fun hm hp => ?_, fun p hm hp => ⟨fun h => ?_, fun h => ?_⟩⟩
  · rw [hm]
    exact deliverDrain_zero
  · refine (deliverDrain_eq hm).trans ((if_neg ?_).trans (consume_of_none hm hp))
    rw [capReached_consume hm]
    rintro ⟨p, hp', -⟩
    rw [hp] at hp'
    cases hp'
  · refine (deliverDrain_eq hm).trans (if_neg ?_)
    rw [capReached_consume hm]
    rintro ⟨q, hq, hle⟩
    obtain rfl : p = q := Option.some.inj (hp.symm.trans hq)
    exact absurd hle (Nat.not_le_of_lt h)
  · exact (deliverDrain_eq hm).trans (if_pos ((capReached_consume hm).mpr ⟨p, hp, h⟩))

/-! ### The routing -/

theorem divert_accepts_iff : c.divert.any (accepts s) = true ↔ ∃ d, c.divert = some d ∧ Accepting s d := by
  simp only [Option.any_eq_true, accepts_iff]

theorem routeStep_eq {st : StreamState} {time : Nat}
    (h : settleRoute c (accepts s c.primary) (c.divert.any (accepts s)) (s.stream i) = (st, time)) :
    routeStep i c s =
      routeRequest c st
        (routeAlert i c (s.stream i).state st (s.setStream i { s.stream i with state := st, divertedTime := time })) := by
  simp only [routeStep, h]

theorem routeAlert_same (st : StreamState) : routeAlert i c st st s = s := if_pos rfl

/-- R27: the stream moved to a state, with its alert. -/
def routedTo (i : StreamIx) (st : StreamState) (time : Nat) (k : ReportKind) (detail : List Nat) (s : State) : State :=
  { s.setStream i { s.stream i with state := st, divertedTime := time } with
    reports := s.reports.raise (.alert k (.stream i) detail s.clock) }

/-- R23, R25: what routing settles for a stream that is ACTIVE or in FAULT. -/
theorem settleRoute_open {x : Stream} (h : x.state = .active ∨ x.state = .fault) (primary divert : Bool) :
    settleRoute c primary divert x =
      if primary then (.active, x.divertedTime) else if divert then (.diverted, 0) else (.fault, x.divertedTime) := by
  rcases h with h | h <;> simp only [settleRoute, h]

/-- R24: what routing settles for a DIVERTED stream. -/
theorem settleRoute_diverted {x : Stream} (h : x.state = .diverted) (primary divert : Bool) :
    settleRoute c primary divert x =
      if primary = true ∧ (c.minDivert ≤ min (x.divertedTime + 1) 3600 ∨ divert = false) then (.active, 0)
      else if divert then (.diverted, min (x.divertedTime + 1) 3600)
      else (.fault, 0) := by
  have htime : nextDivertedTime x = min (x.divertedTime + 1) 3600 := rfl
  simp only [settleRoute, h, htime]
  cases primary <;> cases divert <;> simp

section Routing

variable {time : Nat}

theorem routeStep_kept {st : StreamState}
    (h : settleRoute c (accepts s c.primary) (c.divert.any (accepts s)) (s.stream i) = (st, time)) (hst : (s.stream i).state = st) :
    routeStep i c s = routeRequest c st (s.setStream i { s.stream i with divertedTime := time }) := by
  obtain rfl := hst
  rw [routeStep_eq h, routeAlert_same]

theorem routeStep_restored
    (h : settleRoute c (accepts s c.primary) (c.divert.any (accepts s)) (s.stream i) = (.active, time))
    (hst : (s.stream i).state ≠ .active) :
    routeStep i c s = wantPosition c c.primaryPos (routedTo i .active time .streamRestored (destFigures c.primary) s) := by
  rw [routeStep_eq h, routeAlert, if_neg hst]
  rfl

theorem routeStep_diverted {d : Dest} (hd : c.divert = some d)
    (h : settleRoute c (accepts s c.primary) (c.divert.any (accepts s)) (s.stream i) = (.diverted, time))
    (hst : (s.stream i).state ≠ .diverted) :
    routeStep i c s = wantPosition c c.divertPos (routedTo i .diverted time .streamDiverted (destFigures d) s) := by
  rw [routeStep_eq h, routeAlert, if_neg hst, hd]
  rfl

theorem routeStep_fault
    (h : settleRoute c (accepts s c.primary) (c.divert.any (accepts s)) (s.stream i) = (.fault, time))
    (hst : (s.stream i).state ≠ .fault) :
    routeStep i c s = routedTo i .fault time .streamFault [streamStateCode (s.stream i).state] s := by
  rw [routeStep_eq h, routeAlert, if_neg hst]
  rfl

end Routing

/-- Settles O41, by the stream's state and by which destinations accept. -/
theorem routingSettlesTheStream : Obligations.RoutingSettlesTheStream := by
  intro s i c x primary divert long moved
  have hprimary : accepts s c.primary = true ↔ primary := accepts_iff
  have hdivert : c.divert.any (accepts s) = true ↔ divert := divert_accepts_iff
  have hsame : s.setStream i { x with divertedTime := x.divertedTime } = s := State.setStream_stream_eq s i
  refine ⟨fun hst hp => ?_, fun hst hp => ?_, fun d hst hp hd hacc => ?_, fun hst hp hd => ?_, fun hst hp hd => ?_,
    fun hst hp hl => ?_, fun hst hd hl => ?_, fun hst hp hd => ?_⟩
  · rw [routeStep_kept ((settleRoute_open (.inl hst) ..).trans (if_pos (hprimary.mpr hp))) hst, hsame]
    rfl
  · exact routeStep_restored ((settleRoute_open (.inr hst) ..).trans (if_pos (hprimary.mpr hp)))
      (fun h => nomatch hst.symm.trans h)
  · refine routeStep_diverted hd ((settleRoute_open hst ..).trans ((if_neg (hprimary.not.mpr hp)).trans
      (if_pos (hdivert.mpr ⟨d, hd, hacc⟩)))) fun h => ?_
    rcases hst with hst | hst <;> exact nomatch hst.symm.trans h
  · refine (routeStep_fault ((settleRoute_open (.inl hst) ..).trans ((if_neg (hprimary.not.mpr hp)).trans
      (if_neg (hdivert.not.mpr hd)))) (fun h => nomatch hst.symm.trans h)).trans ?_
    rw [show (s.stream i).state = .active from hst]
    rfl
  · rw [routeStep_kept ((settleRoute_open (.inr hst) ..).trans ((if_neg (hprimary.not.mpr hp)).trans
      (if_neg (hdivert.not.mpr hd)))) hst, hsame]
    rfl
  · have hl' : long ∨ c.divert.any (accepts s) = false := hl.imp_right fun h => Bool.eq_false_iff.mpr (hdivert.not.mpr h)
    exact routeStep_restored ((settleRoute_diverted hst ..).trans (if_pos ⟨hprimary.mpr hp, hl'⟩))
      (fun h => nomatch hst.symm.trans h)
  · have hl' : ¬ (accepts s c.primary = true ∧ (long ∨ c.divert.any (accepts s) = false)) := by
      rintro ⟨hp, hlong | hnone⟩
      · exact hl ⟨hprimary.mp hp, hlong⟩
      · rw [hdivert.mpr hd] at hnone
        cases hnone
    rw [routeStep_kept ((settleRoute_diverted hst ..).trans ((if_neg hl').trans (if_pos (hdivert.mpr hd)))) hst]
    rfl
  · have hl' : ¬ (accepts s c.primary = true ∧ (long ∨ c.divert.any (accepts s) = false)) := fun h => hp (hprimary.mp h.1)
    refine (routeStep_fault ((settleRoute_diverted hst ..).trans ((if_neg hl').trans (if_neg (hdivert.not.mpr hd))))
      (fun h => nomatch hst.symm.trans h)).trans ?_
    rw [show (s.stream i).state = .diverted from hst]
    rfl

/-! ### The stream's own account -/

theorem measured_eq (p : Point) (fallback : Nat) :
    measured p fallback = if usable p = true then (p.value, false) else (fallback, true) := by
  unfold measured qualityOf usable
  rcases p.cfg with _ | _
  · rfl
  · cases p.quality <;> rfl

theorem measured_fst (p : Point) (fallback : Nat) : (measured p fallback).1 = if usable p = true then p.value else fallback := by
  rw [measured_eq]
  split <;> rfl

theorem measured_snd (p : Point) (fallback : Nat) : (measured p fallback).2 = !usable p := by
  rw [measured_eq]
  split
  · next h => rw [h]; rfl
  · next h => rw [Bool.eq_false_iff.mpr h]; rfl

section Volume

variable {q : CounterIx} {k : Nat}

theorem streamVolume_point (h : NoCounter s c.flowPoint) :
    streamVolume i c s =
      (s, min (if usable (s.point c.flowPoint) = true then (s.point c.flowPoint).value else c.fallbackFlow) 16777215,
        !usable (s.point c.flowPoint)) := by
  simp only [streamVolume, counterSource_none.mpr h, measured_fst, measured_snd, Config.max24]

theorem streamVolume_unmapped (h : OnCounter s c.flowPoint q k) (hq : counterMapped s q = false) :
    streamVolume i c s =
      (failPoint c.flowPoint .unmapped (s.setStream i { s.stream i with snapshot := 0 }), c.fallbackFlow, true) := by
  simp only [streamVolume, counterSource_iff.mpr h, hq, Bool.false_eq_true, if_false]

/-- R13: a stream whose counter has given its pulses. -/
def streamCounted (s : State) (q : CounterIx) (k : Nat) (x : Stream) : Stream :=
  { x with
    volResidue := (pulsesSince s q x.snapshot * k + x.volResidue) % 100, snapshot := counterValue s q }

theorem streamVolume_counter (h : OnCounter s c.flowPoint q k) (hq : counterMapped s q = true) :
    streamVolume i c s =
      (takeCounter c.flowPoint (pulsesSince s q (s.stream i).snapshot) k (s.setStream i (streamCounted s q k (s.stream i))),
        min ((pulsesSince s q (s.stream i).snapshot * k + (s.stream i).volResidue) / 100) 16777215, false) := by
  simp only [streamVolume, counterSource_iff.mpr h, hq, if_true]
  rfl

end Volume

/-- R14 to R17: the stream's record after its own account. -/
def accounted (c : StreamCfg) (conc v snapshot volResidue : Nat) (fallback : Bool) (x : Stream) : Stream :=
  accountStep c conc v fallback { x with volResidue := volResidue, snapshot := snapshot }

theorem stepStream_eq {metered : State} {v : Nat} {fallbackUsed : Bool} (hc : (s.stream i).cfg = some c)
    (hon : (s.stream i).state ≠ .offline) (hvol : streamVolume i c s = (metered, v, fallbackUsed)) :
    stepStream i s =
      routeStep i c (creditStep i c (metered.setStream i
        (accountStep c (measured (s.point c.silverPoint) c.fallbackConc).1 v
          ((measured (s.point c.silverPoint) c.fallbackConc).2 || fallbackUsed) (metered.stream i)))) := by
  simp only [stepStream, hc, hvol]
  exact if_neg hon

/-- R13, R18, R23: what a whole step leaves in the stream's record. -/
theorem stepStream_stream {metered : State} {y : Stream}
    (h : stepStream i s = routeStep i c (creditStep i c (metered.setStream i y))) :
    (stepStream i s).stream i =
      { y with
        state := ((stepStream i s).stream i).state
        divertedTime := ((stepStream i s).stream i).divertedTime
        credited := creditedBy c (metered.actuator c.route).confirmed } := by
  rw [h, routeStep_stream, creditStep_stream, State.setStream_stream_self]
  rfl

/-- R12, R13: the volume part of a step, by the flow point. -/
theorem stepStream_account {conc v snapshot volResidue : Nat} {fallback fallbackUsed : Bool} {metered : State}
    (hc : (s.stream i).cfg = some c) (hon : (s.stream i).state ≠ .offline)
    (hconc : conc = if usable (s.point c.silverPoint) = true then (s.point c.silverPoint).value else c.fallbackConc)
    (hvol : streamVolume i c s = (metered, v, fallbackUsed))
    (hfallback : fallback = (!usable (s.point c.silverPoint) || fallbackUsed))
    (hstream : metered.stream i = { s.stream i with volResidue := volResidue, snapshot := snapshot }) :
    stepStream i s =
      routeStep i c (creditStep i c (metered.setStream i (accounted c conc v snapshot volResidue fallback (s.stream i)))) := by
  rw [stepStream_eq hc hon hvol, measured_fst, measured_snd, hstream, ← hconc, ← hfallback]
  rfl

/-- Settles O38: the timer's pass over the streams, and one stream's step by its flow point. -/
theorem streamsKeepTheirAccounts : Obligations.StreamsKeepTheirAccounts := by
  refine ⟨fun s hr => ?_, fun s i h => ?_, ?_⟩
  · simp only [exec, execAccountTimerExpiry]
    rw [live_of_not_inReset hr]
    rfl
  · unfold stepStream
    split
    · rfl
    · next c hc => exact if_pos (h.resolve_left (by rw [hc]; nofun))
  intro s i c conc v snapshot volResidue fallback metered hc hon silver flow x hconc hvolume sum y confirmed credited
  have hy : accounted c conc v snapshot volResidue fallback (s.stream i) = y := rfl
  clear_value y
  have hstep : stepStream i s = routeStep i c (creditStep i c (metered.setStream i y)) := by
    rw [← hy]
    rcases hvolume with ⟨hno, hsnap, hres, hv, hfall, hmet⟩ | ⟨q, k, hon', hq, hsnap, hres, hv, hfall, hmet⟩ |
      ⟨q, k, hon', hq, hsnap, hres, hv, hfall, hmet⟩
    · refine stepStream_account hc hon hconc ((streamVolume_point hno).trans ?_) hfall ?_
      · rw [hmet, hv]
      · rw [hmet, hsnap, hres]
    · refine stepStream_account hc hon hconc ((streamVolume_unmapped hon' hq).trans ?_) (hfall.trans (Bool.or_true _).symm) ?_
      · rw [hmet, hv]
      · rw [hmet, stream_congr (failPoint_streams ..), State.setStream_stream_self, hsnap, hres]
    · have htaken : takeCounter c.flowPoint (pulsesSince s q (s.stream i).snapshot) k
          (s.setStream i (streamCounted s q k (s.stream i))) = metered := by
        rw [hmet, takeCounter_eq, hsnap, hres]
        rfl
      refine stepStream_account hc hon hconc ((streamVolume_counter hon' hq).trans ?_) (hfall.trans (Bool.or_false _).symm) ?_
      · rw [htaken, hv]
      · rw [← htaken, stream_congr (takeCounter_streams ..), State.setStream_stream_self, hsnap, hres]
        rfl
  have hcredited : credited = creditedBy c confirmed := (creditedBy_eq confirmed).symm
  exact ⟨hstep, by rw [hcredited]; exact stepStream_stream hstep⟩

end Sys2Proof.Machine
end
